-- ==== Sys2Proof/Word.lean ====
section
/-! DEFINITION. The word types of the ECS (00_scope.md R8, R10) and the slots a mask byte names. -/

namespace Sys2Proof

/-- A `bits8`: a line id, a command code, a payload byte, an output byte. -/
abbrev Byte := BitVec 8

/-- A `bits16`: a report interval in milliseconds. -/
abbrev Half := BitVec 16

/-- A `bits32`: a latch, a time in milliseconds, a reported value. -/
abbrev Word := BitVec 32

/-- The slot indices a mask byte names, ascending: bit `j` names slot `j` (R74). -/
def maskSlots (mask : Byte) : List Nat := (List.range 8).filter (fun j => mask.getLsbD j)

end Sys2Proof
end

