-- ==== Sys2Proof/Config.lean ====
section
/-! DEFINITION. The parameters of 00_scope.md R8, and the free values: what the spec leaves open and no proof may see. -/

namespace Sys2Proof

/-- What arming a line that is already bound does (R36). -/
inductive DupPolicy where
  | replace
  | refuse
deriving DecidableEq, Repr, Inhabited

/-- Who moves at a boundary of the poll loop when both could (R58, R159). -/
inductive Agent where
  | pollLoop
  | edgeAgent
deriving DecidableEq, Repr, Inhabited

/-- The parameters of R8. `irqLines[l]` is `IrqCapable(l)`. The default values only show that parameters
meeting the three constraints exist: the machine's own are `Config.machine`, which nothing can see. -/
structure Config where
  maxSlots    : Nat := 1
  cmdConfig   : Byte := 0
  cmdQuery    : Byte := 1
  frameStart  : Byte
  responseTag : Byte
  frameEnd    : Byte
  countMode   : Byte
  irqLines    : Vector Bool 256
  dupLine     : DupPolicy
  maxSlots_pos : 1 ≤ maxSlots := by decide
  maxSlots_le  : maxSlots ≤ 8 := by decide
  codes_differ : cmdConfig ≠ cmdQuery := by decide
deriving DecidableEq, Repr, Inhabited

/-- `IrqCapable(l)` (R41). -/
def Config.irqCapable (c : Config) (line : Byte) : Bool := c.irqLines[line.toNat]'line.isLt

/-- The byte CAPABILITY advertises as the slot count (R137). -/
def Config.maxSlotsByte (c : Config) : Byte := BitVec.ofNat 8 c.maxSlots

/-- The parameters of the machine that `State.reset` powers on: OPEN (R8), so without a body. Log 1. -/
opaque Config.machine : Config

/-- A clock reading the environment has not lined up: any value (R42). Log 3. -/
opaque Config.freeClock : Nat → Word

/-- Who moves at a boundary where both agents could and the environment has not said: either (R159). Log 5. -/
opaque Config.freeTurn : Nat → Agent

end Sys2Proof
end

