-- ==== Sys2Proof/Syntax.lean ====
section
/-! DEFINITION. The operations of the ECS, one constructor per row of spec/opcode_table.json, and the transactions at its
ports that carry them (10_state.md R39, 30_encoding.md R63, R81). -/

namespace Sys2Proof

/-- The decoded trigger mode of a slot (R27). -/
inductive TriggerMode where
  | change
  | rising
  | falling
  | changePu
  | risingPu
  | fallingPu
  | unrecognized
deriving DecidableEq, Repr

/-- The edge kind a line is armed for (R85). -/
inductive EdgeKind where
  | change
  | rising
  | falling
deriving DecidableEq, Repr

/-- An input mode the ECS can set (R35). -/
inductive InputMode where
  | input
  | inputPullup
deriving DecidableEq, Repr

/-- The direction of a transition: low to high or high to low (R81). -/
inductive Direction where
  | rise
  | fall
deriving DecidableEq, Repr

/-- The operations, and the two output messages the opcode table lists beside them. -/
inductive Instr where
  | configChange (line high low : Byte)
  | configRising (line high low : Byte)
  | configFalling (line high low : Byte)
  | configChangePu (line high low : Byte)
  | configRisingPu (line high low : Byte)
  | configFallingPu (line high low : Byte)
  | configUnrecognized (line mode high low : Byte)
  | query (payload : List Byte)
  | unknown (code : Byte) (payload : List Byte)
  | tick
  | edge (line : Byte) (dir : Direction)
  | reset
  | pinMode (line mode : Byte)
  | capability (line : Byte)
  | report (mask : Byte) (values : List Word)
  | capabilityResponse (count : Byte)
deriving DecidableEq, Repr

/-- A transaction for the poll-loop agent: one of its five ports with the data it carries (R39). -/
inductive PollRequest where
  | command (code : Byte) (payload : List Byte)
  | tick
  | pinMode (line mode : Byte)
  | capability (line : Byte)
  | reset
deriving DecidableEq, Repr

/-- A transition on the edge port of a line (R81). -/
structure EdgeEvent where
  line : Byte
  dir  : Direction
deriving DecidableEq, Repr

/-- A transaction at any port: presented to the poll loop, on an edge port, or put on the output sink. -/
inductive Transaction where
  | poll (request : PollRequest)
  | edge (event : EdgeEvent)
  | output (bytes : List Byte)
deriving DecidableEq, Repr

/-- The ports of R39, and the output port of R43. -/
inductive Port where
  | command
  | tick
  | pinMode
  | capability
  | reset
  | edge
  | output
deriving DecidableEq, Repr

/-- The port a transaction is on. -/
def Transaction.port : Transaction → Port
  | .poll (.command _ _) => .command
  | .poll .tick => .tick
  | .poll (.pinMode _ _) => .pinMode
  | .poll (.capability _) => .capability
  | .poll .reset => .reset
  | .edge _ => .edge
  | .output _ => .output

/-- The port of R39 that carries an operation; the two output messages are on the output port. -/
def Instr.port : Instr → Port
  | .configChange _ _ _ => .command
  | .configRising _ _ _ => .command
  | .configFalling _ _ _ => .command
  | .configChangePu _ _ _ => .command
  | .configRisingPu _ _ _ => .command
  | .configFallingPu _ _ _ => .command
  | .configUnrecognized _ _ _ _ => .command
  | .query _ => .command
  | .unknown _ _ => .command
  | .tick => .tick
  | .edge _ _ => .edge
  | .reset => .reset
  | .pinMode _ _ => .pinMode
  | .capability _ => .capability
  | .report _ _ => .output
  | .capabilityResponse _ => .output

/-- The operands of a CONFIG of any mode: line, decoded mode, interval high and low (R95); none for another operation. -/
def Instr.configOperands : Instr → Option (Byte × TriggerMode × Byte × Byte)
  | .configChange l h o => some (l, .change, h, o)
  | .configRising l h o => some (l, .rising, h, o)
  | .configFalling l h o => some (l, .falling, h, o)
  | .configChangePu l h o => some (l, .changePu, h, o)
  | .configRisingPu l h o => some (l, .risingPu, h, o)
  | .configFallingPu l h o => some (l, .fallingPu, h, o)
  | .configUnrecognized l _ h o => some (l, .unrecognized, h, o)
  | .query _ => none
  | .unknown _ _ => none
  | .tick => none
  | .edge _ _ => none
  | .reset => none
  | .pinMode _ _ => none
  | .capability _ => none
  | .report _ _ => none
  | .capabilityResponse _ => none

end Sys2Proof
end

