-- ==== Sys2Proof/Machine/State.lean ====
section
/-! DEFINITION. The state of the ECS (10_state.md R22), what the environment holds ready for its ports, and the state after
power-on (70_reset_and_hazards.md R171). -/

namespace Sys2Proof.Machine

/-- Why the machine stops with a fault. The spec has none: "There are no fatal errors within this core" (R146). -/
inductive Fault
deriving DecidableEq, Repr

/-- Why the model gives a step no meaning. Each but the first is a duty of the environment broken (R151) or a message the
framer never has. -/
inductive Refusal where
  /-- Raised by an arm of exec for an instruction with no meaning yet. Safe. -/
  | notModelled (mnemonic : String)
  /-- Raised when a CONFIG payload of another length than four is presented (R65, R95, R151(a)). Safe. -/
  | payloadLength (found : Nat)
  /-- Raised by CONFIG when it would arm a line already bound, under the policy REFUSE (R36, R151(b)). Safe. -/
  | lineAlreadyBound (line : Byte)
  /-- Raised by every operation but EDGE when it is presented while a TICK is incomplete (R113, R151(c)). Safe. -/
  | tickIncomplete
  /-- Raised by the two output messages when they are none the framer can emit (R74, R76, R79). Safe. Log 9. -/
  | malformedMessage
deriving DecidableEq, Repr

/-- An entry of the CounterSlot table (R26). Its index is its position and is not stored. -/
structure Slot where
  line      : Byte
  mode      : TriggerMode
  interval  : Half
  lastTime  : Word
  lastValue : Word
deriving DecidableEq, Repr

/-- The slot whose handler a line's edges go to, and the kind of edge that qualifies (R34). -/
structure Binding where
  slot : Nat
  kind : EdgeKind
deriving DecidableEq, Repr

/-- Where the poll-loop agent is inside a TICK (R116): in none, or past micro-step 1 with these due slots still to drain
in this order; an empty list stands before micro-step 3. -/
inductive TickPhase where
  | idle
  | draining (due : List Nat)
deriving DecidableEq, Repr

/-- An event of the diagnostic port (R44). -/
inductive Diag where
  | unknownCmd (code : Byte)
deriving DecidableEq, Repr

/-- Who moves at the next boundary: the poll loop, an edge agent, or the host presenting its next operation without waiting
for the poll loop (R58, R151(c), R159). -/
inductive Turn where
  | pollLoop
  | edgeAgent
  | host
deriving DecidableEq, Repr

structure State where
  /-- The parameters (R8); no step writes them. Log 1. -/
  cfg       : Config
  /-- `latch[i]`, for `i < MAX_SLOTS` (R23). -/
  latches   : List Word
  /-- `slot[i]`, for `i < MAX_SLOTS` (R25). -/
  slots     : List Slot
  /-- The active slot count (R30). -/
  numSlots  : Nat
  /-- `binding[l]` (R34). -/
  bindings  : Vector (Option Binding) 256
  /-- `lineMode[l]`; none is UNSET (R34). -/
  lineModes : Vector (Option InputMode) 256
  /-- Where a TICK stands (R116). -/
  tick      : TickPhase
  /-- The output sink, oldest byte first (R43). -/
  output    : List Byte
  /-- What the result port has answered, oldest first (R40). Log 10. -/
  answers   : List Bool
  /-- What the diagnostic port has carried, oldest first (R44). Log 10. -/
  diags     : List Diag
  /-- Operations presented to the poll loop and not yet taken, oldest first (R39). Log 4. -/
  polls     : List PollRequest
  /-- Transitions presented on edge ports and not yet taken, oldest first (R39, R154). Log 4. -/
  edges     : List EdgeEvent
  /-- Who moves at the next boundaries, as far as the environment has said (R159). Log 5. -/
  turns     : List Turn
  /-- What the next clock samples return, as far as the environment has said (R42). Log 3. -/
  clock     : List Word
  /-- How many free values have been drawn: the model's own counter. Logs 3 and 5. -/
  draws     : Nat
deriving DecidableEq, Repr

/-- An entry of the slot table that no CONFIG has written. The spec leaves its fields unspecified (R171) and admits zero
(R173): DESIGN CHOICE, log 2. -/
def blankSlot : Slot := ⟨0#8, .change, 0#16, 0#32, 0#32⟩

/-- The ECS with parameters `c` at power-on (R171), nothing presented to it. Latches and slot fields: log 2. -/
def State.powerOn (c : Config) : State where
  cfg       := c
  latches   := List.replicate c.maxSlots 0#32
  slots     := List.replicate c.maxSlots blankSlot
  numSlots  := 0
  bindings  := Vector.replicate 256 none
  lineModes := Vector.replicate 256 none
  tick      := .idle
  output    := []
  answers   := []
  diags     := []
  polls     := []
  edges     := []
  turns     := []
  clock     := []
  draws     := 0

/-- The machine right after power-on, its parameters open. -/
def State.reset : State := State.powerOn Config.machine

/-- The three outcomes of an operation or a step. -/
abbrev Result := Host.Outcome State Fault Refusal

end Sys2Proof.Machine
end

