-- ==== Sys2Proof/Machine/Flags.lean ====
section
/-! DEFINITION. The ECS has no flags (10_state.md R32); in their place stands the outcome of an operation (60_exceptions.md
R147) with what it shows on the result port and the diagnostic port. -/

namespace Sys2Proof.Machine

/-- The outcomes of R147, each with the spec's code number. -/
inductive OpOutcome where
  | ok
  | full
  | unknownCmd
  | modeUnrecognized
  | rejected
deriving DecidableEq, Repr

/-- The code numbers of R147; none is ever sent. -/
def outcomeCode : OpOutcome → Nat
  | .ok => 0
  | .full => 1
  | .unknownCmd => 2
  | .modeUnrecognized => 3
  | .rejected => 4

/-- The answer "handled" of an outcome (R147). -/
def outcomeAnswer : OpOutcome → Bool
  | .ok => true
  | .full => false
  | .unknownCmd => false
  | .modeUnrecognized => true
  | .rejected => false

/-- The outcome answered on the result port (R40): an operation ends so. -/
def finish (o : OpOutcome) (s : State) : State := { s with answers := s.answers ++ [outcomeAnswer o] }

/-- `Diag(e)` (R44). -/
def raiseDiag (e : Diag) (s : State) : State := { s with diags := s.diags ++ [e] }

end Sys2Proof.Machine
end

