-- ==== Sys2Proof/WellFormed.lean ====
section
/-! DEFINITION. Which operations have an encoding (30_encoding.md). Every field of every command is free (R84) but for three
checks: an UNRECOGNIZED mode byte is none of the six (R67), an UNKNOWN code is neither parameter (R71), and an output
message is one the framer can emit (R74, R76, R77, R79). -/

namespace Sys2Proof

/-- The mask and values of a frame that can be emitted: some slot is due, no bit beyond the capacity, one value per bit. -/
def reportWellFormed (c : Config) (mask : Byte) (values : List Word) : Bool :=
  mask != 0 && decide (mask.toNat < 2 ^ c.maxSlots) && values.length == (maskSlots mask).length

def WellFormed (c : Config) : Instr → Bool
  | .configChange _ _ _ => true
  | .configRising _ _ _ => true
  | .configFalling _ _ _ => true
  | .configChangePu _ _ _ => true
  | .configRisingPu _ _ _ => true
  | .configFallingPu _ _ _ => true
  | .configUnrecognized _ mode _ _ => decide (0x06 ≤ mode.toNat)
  | .query _ => true
  | .unknown code _ => code != c.cmdConfig && code != c.cmdQuery
  | .tick => true
  | .edge _ _ => true
  | .reset => true
  | .pinMode _ _ => true
  | .capability _ => true
  | .report mask values => reportWellFormed c mask values
  | .capabilityResponse count => count == c.maxSlotsByte

end Sys2Proof
end

