-- ==== Sys2Proof/Decode.lean ====
section
/-! DEFINITION. The decoder of every port, total and rejecting by name, the encoder written from the same tables, and the
byte order of intervals and values (30_encoding.md). -/

namespace Sys2Proof

/-- Why a transaction is no operation. -/
inductive DecodeError where
  /-- A CONFIG payload that is not four bytes long (R65). -/
  | payloadLength (found : Nat)
  /-- Bytes that are neither a report frame nor a capability response. -/
  | notAnOutputMessage
deriving DecidableEq, Repr

/-! ### Fields -/

/-- `DecodeMode(M)` (R67). -/
def decodeMode (mode : Byte) : TriggerMode :=
  if mode = 0x00#8 then .change
  else if mode = 0x01#8 then .rising
  else if mode = 0x02#8 then .falling
  else if mode = 0x03#8 then .changePu
  else if mode = 0x04#8 then .risingPu
  else if mode = 0x05#8 then .fallingPu
  else .unrecognized

/-- The interval of a CONFIG: high byte first (R49, R66). -/
def intervalOf (high low : Byte) : Half := (high.setWidth 16 <<< 8) ||| low.setWidth 16

/-- The four bytes of a value, most significant first (R48, R75). -/
def bytesBE (v : Word) : List Byte :=
  [v.extractLsb' 24 8, v.extractLsb' 16 8, v.extractLsb' 8 8, v.extractLsb' 0 8]

/-- The value of four bytes, the first the most significant (R75, R78). -/
def wordBE (a b c d : Byte) : Word := a ++ b ++ c ++ d

/-! ### Decoding -/

/-- A CONFIG of four payload bytes (R65): the mode byte chooses the row of R67. -/
def decodeConfig (line mode high low : Byte) : Instr :=
  match decodeMode mode with
  | .change => .configChange line high low
  | .rising => .configRising line high low
  | .falling => .configFalling line high low
  | .changePu => .configChangePu line high low
  | .risingPu => .configRisingPu line high low
  | .fallingPu => .configFallingPu line high low
  | .unrecognized => .configUnrecognized line mode high low

/-- The command port (R94): the code alone chooses, and only CONFIG has a fixed length (R65, R82). -/
def decodeCommand (c : Config) (code : Byte) (payload : List Byte) : Except DecodeError Instr :=
  if code = c.cmdConfig then
    match payload with
    | [line, mode, high, low] => .ok (decodeConfig line mode high low)
    | other => .error (.payloadLength other.length)
  else if code = c.cmdQuery then .ok (.query payload)
  else .ok (.unknown code payload)

/-- The five ports of the poll-loop agent (R39). -/
def decodePoll (c : Config) : PollRequest → Except DecodeError Instr
  | .command code payload => decodeCommand c code payload
  | .tick => .ok .tick
  | .pinMode line mode => .ok (.pinMode line mode)
  | .capability line => .ok (.capability line)
  | .reset => .ok .reset

/-- The edge ports (R81). -/
def decodeEdge (e : EdgeEvent) : Instr := .edge e.line e.dir

/-- The loop of `DecodeReport` (R78): one value of four bytes for each set bit of the mask among the listed ones, and the
bytes left over. -/
def readValues (mask : Byte) : List Nat → List Byte → Option (List Word × List Byte)
  | [], p => some ([], p)
  | j :: js, p =>
    if mask.getLsbD j then
      match p with
      | a :: b :: c :: d :: rest => (readValues mask js rest).map (fun r => (wordBE a b c d :: r.1, r.2))
      | _ => none
    else readValues mask js p

/-- `DecodeReport(p)` (R78): none where the payload is not well-formed. -/
def decodeReport : List Byte → Option (Byte × List Word)
  | [] => none
  | mask :: p =>
    match readValues mask (List.range 8) p with
    | some (values, []) => some (mask, values)
    | _ => none

/-- A whole report frame without its start marker and tag: the payload and the end marker (R72). -/
def decodeFrameRest (c : Config) (rest : List Byte) : Except DecodeError Instr :=
  match decodeReport rest.dropLast with
  | some (mask, values) =>
    if rest.getLast? = some c.frameEnd ∧ reportWellFormed c mask values = true then .ok (.report mask values)
    else .error .notAnOutputMessage
  | none => .error .notAnOutputMessage

/-- What a receiver reads from one message of the sink (R72, R79). A response has two bytes and a frame at least eight
(R76), so the length tells them apart. -/
def decodeOutput (c : Config) : List Byte → Except DecodeError Instr
  | [mode, count] =>
    if mode = c.countMode ∧ count = c.maxSlotsByte then .ok (.capabilityResponse count)
    else .error .notAnOutputMessage
  | start :: tag :: rest =>
    if start = c.frameStart ∧ tag = c.responseTag then decodeFrameRest c rest
    else .error .notAnOutputMessage
  | _ => .error .notAnOutputMessage

/-- The decoder of a transaction at any port. -/
def decode (c : Config) : Transaction → Except DecodeError Instr
  | .poll r => decodePoll c r
  | .edge e => .ok (decodeEdge e)
  | .output bytes => decodeOutput c bytes

/-! ### Encoding -/

/-- `EncodePayload(mask, vals)` (R128). -/
def encodePayload (mask : Byte) (values : List Word) : List Byte := mask :: values.flatMap bytesBE

/-- `EncodeReport(mask, vals)` (R128). -/
def encodeReport (c : Config) (mask : Byte) (values : List Word) : List Byte :=
  [c.frameStart, c.responseTag] ++ encodePayload mask values ++ [c.frameEnd]

/-- The two bytes of a capability response (R79). -/
def encodeCapabilityResponse (c : Config) (count : Byte) : List Byte := [c.countMode, count]

/-- A configuration command (R65). -/
def encodeConfig (c : Config) (line mode high low : Byte) : Transaction :=
  .poll (.command c.cmdConfig [line, mode, high, low])

/-- The transaction that carries an operation. -/
def encode (c : Config) : Instr → Transaction
  | .configChange line high low => encodeConfig c line 0x00#8 high low
  | .configRising line high low => encodeConfig c line 0x01#8 high low
  | .configFalling line high low => encodeConfig c line 0x02#8 high low
  | .configChangePu line high low => encodeConfig c line 0x03#8 high low
  | .configRisingPu line high low => encodeConfig c line 0x04#8 high low
  | .configFallingPu line high low => encodeConfig c line 0x05#8 high low
  | .configUnrecognized line mode high low => encodeConfig c line mode high low
  | .query payload => .poll (.command c.cmdQuery payload)
  | .unknown code payload => .poll (.command code payload)
  | .tick => .poll .tick
  | .edge line dir => .edge ⟨line, dir⟩
  | .reset => .poll .reset
  | .pinMode line mode => .poll (.pinMode line mode)
  | .capability line => .poll (.capability line)
  | .report mask values => .output (encodeReport c mask values)
  | .capabilityResponse count => .output (encodeCapabilityResponse c count)

/-! ### Words of the opcode table

Only commands have bytes (R81), so a word is read as a command: its first byte is the code, the next are the payload. Log 12. -/

/-- The bytes of a word, the first in its lowest eight bits; never none, since a command has its code byte. -/
def wordBytes (nbits w : Nat) : Byte × List Byte :=
  (BitVec.ofNat 8 w, (List.range ((nbits + 7) / 8 - 1)).map (fun k => BitVec.ofNat 8 (w >>> (8 * (k + 1)))))

/-- The command a word stands for: a CONFIG shorter than its five bytes is filled up with zeros. -/
def commandOfWord (c : Config) (nbits w : Nat) : PollRequest :=
  let b := wordBytes nbits w
  if b.1 = c.cmdConfig then .command b.1 (b.2 ++ List.replicate (4 - b.2.length) 0#8)
  else .command b.1 b.2

/-- The instruction the decoder reads from a word under the parameters `c`. -/
def decodeWordWith (c : Config) (nbits w : Nat) : Option Instr :=
  match decodePoll c (commandOfWord c nbits w) with
  | .ok i => some i
  | .error _ => none

/-- The instruction the machine's decoder reads from a word of the opcode table. -/
def decodeTableWord (nbits w : Nat) : Option Instr := decodeWordWith Config.machine nbits w

end Sys2Proof
end

