-- ==== Sys2Proof/Machine/Operands.lean ====
section
/-! DEFINITION. What the operands of CONFIG and EDGE stand for: edge kind and input mode of a trigger mode (10_state.md R27),
and which directions qualify (40_edge_latch.md R85). The bytes of intervals and values are in Decode.lean. -/

namespace Sys2Proof.Machine

/-- `EdgeKindOf` (R27); not applied to UNRECOGNIZED. -/
def edgeKindOf : TriggerMode → Option EdgeKind
  | .change => some .change
  | .rising => some .rising
  | .falling => some .falling
  | .changePu => some .change
  | .risingPu => some .rising
  | .fallingPu => some .falling
  | .unrecognized => none

/-- `InputModeOf` (R27, R99); not applied to UNRECOGNIZED. -/
def inputModeOf : TriggerMode → Option InputMode
  | .change => some .input
  | .rising => some .input
  | .falling => some .input
  | .changePu => some .inputPullup
  | .risingPu => some .inputPullup
  | .fallingPu => some .inputPullup
  | .unrecognized => none

/-- `Qualifies(k, d)` (R85). PRESUMED by the spec from general knowledge (G1): log 11. -/
def qualifies : EdgeKind → Direction → Bool
  | .change, _ => true
  | .rising, .rise => true
  | .rising, .fall => false
  | .falling, .fall => true
  | .falling, .rise => false

end Sys2Proof.Machine
end

