-- ==== Sys2Proof/Machine/Ops.lean ====
section
/-! DEFINITION. The primitives of 00_scope.md R11 over the state. There is no exception entry and no return from one: the ECS
has no traps (60_exceptions.md R146), and an interrupt saves nothing (R156, R157). -/

namespace Sys2Proof.Machine

/-! ### Reads -/

/-- `latch[i]` (R23). Past the table it reads zero, which no reachable state does: log 8. -/
def latchAt (s : State) (i : Nat) : Word := s.latches.getD i 0#32

/-- `slot[i]` (R25). Past the table it reads blank, which no reachable state does: log 8. -/
def slotAt (s : State) (i : Nat) : Slot := s.slots.getD i blankSlot

/-- `binding[l]` (R34). -/
def bindingAt (s : State) (line : Byte) : Option Binding := s.bindings[line.toNat]'line.isLt

/-- `lineMode[l]`, none for UNSET (R34). -/
def lineModeAt (s : State) (line : Byte) : Option InputMode := s.lineModes[line.toNat]'line.isLt

/-- Whether a TICK is incomplete (R113). -/
def tickBusy (s : State) : Bool :=
  match s.tick with
  | .idle => false
  | .draining _ => true

/-! ### Writes -/

/-- `latch[i] <- v`. -/
def writeLatch (i : Nat) (v : Word) (s : State) : State := { s with latches := s.latches.set i v }

/-- `slot[i] <- x`, all fields. -/
def writeSlot (i : Nat) (x : Slot) (s : State) : State := { s with slots := s.slots.set i x }

/-- `SetInputMode(l, m)` (R35). -/
def setInputMode (line : Byte) (m : InputMode) (s : State) : State :=
  { s with lineModes := s.lineModes.set line.toNat (some m) line.isLt }

/-- `binding[l] <- b`. -/
def writeBinding (line : Byte) (b : Option Binding) (s : State) : State :=
  { s with bindings := s.bindings.set line.toNat b line.isLt }

/-- `Arm(l, k, i)` (R36); none where the policy REFUSE refuses an already-bound line. -/
def arm (line : Byte) (kind : EdgeKind) (i : Nat) (s : State) : Option State :=
  match bindingAt s line, s.cfg.dupLine with
  | none, _ => some (writeBinding line (some ⟨i, kind⟩) s)
  | some _, .replace => some (writeBinding line (some ⟨i, kind⟩) s)
  | some _, .refuse => none

/-- `Disarm(l)` (R37). -/
def disarm (line : Byte) (s : State) : State := writeBinding line none s

/-- `numSlots <- n`. -/
def setNumSlots (n : Nat) (s : State) : State := { s with numSlots := n }

/-- Where the TICK stands next (R116). -/
def setTick (p : TickPhase) (s : State) : State := { s with tick := p }

/-- The operations still presented, once one is taken. -/
def setPolls (rs : List PollRequest) (s : State) : State := { s with polls := rs }

/-- The transitions still pending, once one is taken. -/
def setEdges (es : List EdgeEvent) (s : State) : State := { s with edges := es }

/-- The turns still prescribed, once one is taken. -/
def setTurns (ts : List Turn) (s : State) : State := { s with turns := ts }

/-- The readings still lined up, once one is sampled. -/
def setClock (ts : List Word) (s : State) : State := { s with clock := ts }

/-- One more free value drawn. -/
def countDraw (s : State) : State := { s with draws := s.draws + 1 }

/-- `Emit(b)` for each byte of a list in order (R43). -/
def emit (bytes : List Byte) (s : State) : State := { s with output := s.output ++ bytes }

/-- The next clock reading: what the environment has lined up, else any value (R42). Log 3. -/
def clockReading (s : State) : Word :=
  match s.clock with
  | t :: _ => t
  | [] => Config.freeClock s.draws

/-- The state after one sample of the clock (R42). -/
def afterSample (s : State) : State :=
  match s.clock with
  | _ :: rest => setClock rest s
  | [] => countDraw s

/-- The latch half of `XchgZero(i)` (R53); the value returned is `latchAt s i`, read before. One step: no EDGE falls between. -/
def xchgZero (i : Nat) (s : State) : Word × State := (latchAt s i, writeLatch i 0#32 s)

/-! ### The poll loop -/

/-- A poll-loop operation runs only when no TICK is incomplete; presented inside one, it is refused (R113, R151(c)). -/
def whenIdle (s : State) (r : Result) : Result :=
  match s.tick with
  | .idle => r
  | .draining _ => .refused .tickIncomplete

end Sys2Proof.Machine
end

