-- ==== Sys2Proof/Machine/CapabilityReset.lean ====
section
/-! DEFINITION. PIN_MODE, CAPABILITY with its response, and RESET (43_capability_reset.md). -/

namespace Sys2Proof.Machine

/-- PIN_MODE (R134). -/
def execPinMode (line mode : Byte) (s : State) : Result :=
  whenIdle s
    (if mode = s.cfg.countMode ∧ s.cfg.irqCapable line = true then .next (finish .ok (setInputMode line .input s))
    else .next (finish .rejected s))

/-- CAPABILITY (R137, R138). -/
def execCapability (line : Byte) (s : State) : Result :=
  whenIdle s
    (if s.cfg.irqCapable line then .next (finish .ok (emit (encodeCapabilityResponse s.cfg s.cfg.maxSlotsByte) s))
    else .next (finish .rejected s))

/-- The capability response put on the sink (R79): the count is the capacity and no other (R138). Log 9. -/
def execCapabilityResponse (count : Byte) (s : State) : Result :=
  whenIdle s
    (if count = s.cfg.maxSlotsByte then .next (emit (encodeCapabilityResponse s.cfg count) s)
    else .refused .malformedMessage)

/-- The lines of the active slots, ascending by slot (R140, R141). -/
def activeLines (s : State) : List Byte := (s.slots.take s.numSlots).map (fun x => x.line)

/-- `Disarm` of each listed line in order. -/
def disarmAll (lines : List Byte) (s : State) : State := lines.foldl (fun t l => disarm l t) s

/-- RESET (R140): latches, slot fields and input modes stay (R142, R145). -/
def execReset (s : State) : Result := whenIdle s (.next (setNumSlots 0 (disarmAll (activeLines s) s)))

end Sys2Proof.Machine
end

