-- ==== Sys2Proof/Machine/ConfigDecoder.lean ====
section
/-! DEFINITION. CONFIG in its seven modes, QUERY and UNKNOWN (41_config.md). -/

namespace Sys2Proof.Machine

/-- Steps 2 and 3 of R96: every field of the new slot but its time, and its latch. -/
def allocate (i : Nat) (line : Byte) (mode : TriggerMode) (interval : Half) (s : State) : State :=
  writeSlot i { slotAt s i with line := line, mode := mode, interval := interval, lastValue := 0#32 } (writeLatch i 0#32 s)

/-- Step 4 of R96: the input mode, then the trigger (R99); nothing for an unrecognized mode (R101). -/
def armSlot (i : Nat) (line : Byte) (mode : TriggerMode) (s : State) : Option State :=
  match edgeKindOf mode, inputModeOf mode with
  | some kind, some m => arm line kind i (setInputMode line m s)
  | _, _ => some s

/-- Step 5 of R96: the slots `0 .. n-1` share the epoch `t` (R100). -/
def resync (n : Nat) (t : Word) (s : State) : State :=
  { s with slots := (s.slots.take n).map (fun x => { x with lastTime := t }) ++ s.slots.drop n }

/-- Steps 5 and 6 of R96 for the new slot `i`: one sample, every active slot's epoch, the count. -/
def activate (i : Nat) (s : State) : State :=
  setNumSlots (i + 1) (resync (i + 1) (clockReading s) (afterSample s))

/-- The outcome of a CONFIG that allocated its slot (R147). -/
def allocatedOutcome : TriggerMode → OpOutcome
  | .unrecognized => .modeUnrecognized
  | _ => .ok

/-- CONFIG (R96) from step 1, on the decoded mode. -/
def configure (line : Byte) (mode : TriggerMode) (high low : Byte) (s : State) : Result :=
  if s.numSlots = s.cfg.maxSlots then .next (finish .full s)
  else
    match armSlot s.numSlots line mode (allocate s.numSlots line mode (intervalOf high low) s) with
    | some s' => .next (finish (allocatedOutcome mode) (activate s.numSlots s'))
    | none => .refused (.lineAlreadyBound line)

/-- CONFIG.CHANGE (R96). -/
def execConfigChange (line high low : Byte) (s : State) : Result := whenIdle s (configure line .change high low s)

/-- CONFIG.RISING (R96). -/
def execConfigRising (line high low : Byte) (s : State) : Result := whenIdle s (configure line .rising high low s)

/-- CONFIG.FALLING (R96). -/
def execConfigFalling (line high low : Byte) (s : State) : Result := whenIdle s (configure line .falling high low s)

/-- CONFIG.CHANGE_PU (R96). -/
def execConfigChangePu (line high low : Byte) (s : State) : Result := whenIdle s (configure line .changePu high low s)

/-- CONFIG.RISING_PU (R96). -/
def execConfigRisingPu (line high low : Byte) (s : State) : Result := whenIdle s (configure line .risingPu high low s)

/-- CONFIG.FALLING_PU (R96). -/
def execConfigFallingPu (line high low : Byte) (s : State) : Result := whenIdle s (configure line .fallingPu high low s)

/-- CONFIG.UNRECOGNIZED (R101): the mode byte is not kept (R27). -/
def execConfigUnrecognized (line high low : Byte) (s : State) : Result :=
  whenIdle s (configure line .unrecognized high low s)

/-- QUERY (R104, R105). -/
def execQuery (s : State) : Result := whenIdle s (.next (finish .ok s))

/-- UNKNOWN (R106). -/
def execUnknown (code : Byte) (s : State) : Result :=
  whenIdle s (.next (finish .unknownCmd (raiseDiag (.unknownCmd code) s)))

end Sys2Proof.Machine
end

