-- ==== Sys2Proof/Machine/EdgeLatch.lean ====
section
/-! DEFINITION. EDGE (40_edge_latch.md). -/

namespace Sys2Proof.Machine

/-- The slot a transition counts on: that of the line's binding, where the direction qualifies (R86, R87). -/
def countedSlot (s : State) (line : Byte) (dir : Direction) : Option Nat :=
  match bindingAt s line with
  | some b => if qualifies b.kind dir then some b.slot else none
  | none => none

/-- `latch[i] <- latch[i] + 1`, modulo 2^32 (R54, R88). -/
def incrementLatch (i : Nat) (s : State) : State := writeLatch i (latchAt s i + 1#32) s

/-- EDGE (R86): one atomic step, at any boundary, a TICK incomplete or not (R58, R156). -/
def execEdge (line : Byte) (dir : Direction) (s : State) : Result :=
  match countedSlot s line dir with
  | some i => .next (incrementLatch i s)
  | none => .next s

end Sys2Proof.Machine
end

