-- ==== Sys2Proof/Machine/ReportScheduler.lean ====
section
/-! DEFINITION. TICK with its micro-steps, and the report frame put on the sink (42_report.md). -/

namespace Sys2Proof.Machine

/-- `elapsed(i, t)` (R114). -/
def elapsed (x : Slot) (t : Word) : Word := t - x.lastTime

/-- Whether a slot is due at the reading `t` (R115): unsigned and strict. -/
def isDue (x : Slot) (t : Word) : Bool := (x.interval.setWidth 32).ult (elapsed x t)

/-- The due active slots at the reading `t`, ascending (R115, R116). -/
def dueSlots (s : State) (t : Word) : List Nat := (List.range s.numSlots).filter (fun i => isDue (slotAt s i) t)

/-- The mask with exactly these bits set (R117). -/
def maskOf (due : List Nat) : Byte := due.foldl (fun m i => m ||| (1#8 <<< i)) 0#8

/-- Micro-step 1 of TICK past the test for no slots (R116, R119): one sample, the mask, the head of the frame. -/
def openFrame (s : State) : State :=
  let due := dueSlots s (clockReading s)
  if due = [] then afterSample s
  else setTick (.draining due) (emit [s.cfg.frameStart, s.cfg.responseTag, maskOf due] (afterSample s))

/-- Micro-step 2.i of TICK (R116): the grid point moves by one interval (R120), the latch is drained, its value is kept and
emitted (R121). -/
def drainSlot (i : Nat) (s : State) : State :=
  let x := slotAt s i
  let r := xchgZero i s
  emit (bytesBE r.1)
    (writeSlot i { x with lastTime := x.lastTime + x.interval.setWidth 32, lastValue := r.1 } r.2)

/-- Micro-step 3 of TICK (R122). -/
def closeFrame (s : State) : State := setTick .idle (emit [s.cfg.frameEnd] s)

/-- The next micro-step of an incomplete TICK; nothing where there is none. -/
def tickMicroStep (s : State) : State :=
  match s.tick with
  | .idle => s
  | .draining [] => closeFrame s
  | .draining (i :: rest) => setTick (.draining rest) (drainSlot i s)

/-- TICK (R116): micro-step 1; the others are steps of the poll-loop agent that follow (R113). -/
def execTick (s : State) : Result :=
  whenIdle s (if s.numSlots = 0 then .next s else .next (openFrame s))

/-- A report frame put whole on the sink by the framer (R72, R128); no frame for mask 0 (R77). Log 9. -/
def execReport (mask : Byte) (values : List Word) (s : State) : Result :=
  whenIdle s
    (if mask = 0#8 ∧ values = [] then .next s
    else if reportWellFormed s.cfg mask values then .next (emit (encodeReport s.cfg mask values) s)
    else .refused .malformedMessage)

end Sys2Proof.Machine
end

