-- ==== Sys2Proof/Machine/Dispatch.lean ====
section
/-! DEFINITION. One arm per operation (00_scope.md R5, opcode_table.json). -/

namespace Sys2Proof.Machine

def exec (i : Instr) (s : State) : Host.Outcome State Fault Refusal :=
  match i with
  | .configChange line high low => Sys2Proof.Machine.execConfigChange line high low s
  | .configRising line high low => Sys2Proof.Machine.execConfigRising line high low s
  | .configFalling line high low => Sys2Proof.Machine.execConfigFalling line high low s
  | .configChangePu line high low => Sys2Proof.Machine.execConfigChangePu line high low s
  | .configRisingPu line high low => Sys2Proof.Machine.execConfigRisingPu line high low s
  | .configFallingPu line high low => Sys2Proof.Machine.execConfigFallingPu line high low s
  | .configUnrecognized line _ high low => Sys2Proof.Machine.execConfigUnrecognized line high low s
  | .query _ => Sys2Proof.Machine.execQuery s
  | .unknown code _ => Sys2Proof.Machine.execUnknown code s
  | .tick => Sys2Proof.Machine.execTick s
  | .edge line dir => Sys2Proof.Machine.execEdge line dir s
  | .reset => Sys2Proof.Machine.execReset s
  | .pinMode line mode => Sys2Proof.Machine.execPinMode line mode s
  | .capability line => Sys2Proof.Machine.execCapability line s
  | .report mask values => Sys2Proof.Machine.execReport mask values s
  | .capabilityResponse count => Sys2Proof.Machine.execCapabilityResponse count s

end Sys2Proof.Machine
end

