-- ==== Sys2Proof/Machine/Agents.lean ====
section
/-! DEFINITION. How the agents take their turns and take operations from their ports (00_scope.md R14, 20_memory.md R58,
60_exceptions.md R154 to R159). -/

namespace Sys2Proof.Machine

/-- Whether the poll-loop agent has something to do: a TICK to go on with, or an operation presented. -/
def pollReady (s : State) : Bool := tickBusy s || !s.polls.isEmpty

/-- Whether an edge agent has something to do. -/
def edgeReady (s : State) : Bool := !s.edges.isEmpty

/-- The turn an agent has. -/
def turnOf : Agent → Turn
  | .pollLoop => .pollLoop
  | .edgeAgent => .edgeAgent

/-- Who moves next, none where nobody can, and the state with that choice made. The environment's word is taken first; past
it, an agent that alone can move does, and of two either may (R159): log 5. -/
def nextTurn (s : State) : Option Turn × State :=
  match s.turns with
  | t :: rest => (some t, setTurns rest s)
  | [] =>
    match pollReady s, edgeReady s with
    | true, true => (some (turnOf (Config.freeTurn s.draws)), countDraw s)
    | true, false => (some .pollLoop, s)
    | false, true => (some .edgeAgent, s)
    | false, false => (none, s)

/-- The refusal of a transaction that is no operation (R65, R151(a)). -/
def refusalOf : DecodeError → Refusal
  | .payloadLength n => .payloadLength n
  | .notAnOutputMessage => .malformedMessage

/-- The oldest operation presented to the poll loop, decoded and performed. -/
def runPresented (s : State) : Result :=
  match s.polls with
  | [] => .next s
  | r :: rest =>
    match decodePoll s.cfg r with
    | .ok i => exec i (setPolls rest s)
    | .error e => .refused (refusalOf e)

/-- The poll-loop agent's next atomic step: it goes on with an incomplete TICK before it takes another operation (R113). -/
def runPollLoop (s : State) : Result :=
  match s.tick with
  | .draining _ => .next (tickMicroStep s)
  | .idle => runPresented s

/-- The oldest pending transition: an interrupt of a line that has one (R155, R156), and nothing of a line that has none,
since it never delivers an EDGE (R154): log 7. -/
def runEdgeAgent (s : State) : Result :=
  match s.edges with
  | [] => .next s
  | e :: rest =>
    if s.cfg.irqCapable e.line then exec (decodeEdge e) (setEdges rest s)
    else .next (setEdges rest s)

/-- The step of whoever has the turn; the host presents its next operation without regard to an incomplete TICK (R151(c)). -/
def runTurn : Option Turn → State → Result
  | none, s => .next s
  | some .pollLoop, s => runPollLoop s
  | some .edgeAgent, s => runEdgeAgent s
  | some .host, s => runPresented s

/-- A request placed so that the very next step runs it: it is the oldest, no TICK is incomplete, the poll loop has the
turn. Log 4. -/
def placeRequest (r : PollRequest) (s : State) : State :=
  { s with polls := r :: s.polls, turns := .pollLoop :: s.turns, tick := .idle }

end Sys2Proof.Machine
end

