-- ==== Sys2Proof/Machine/Step.lean ====
section
/-! DEFINITION. One step of the machine: one atomic step of one agent (20_memory.md R58). -/

namespace Sys2Proof.Machine

def step (s : State) : Host.Outcome State Fault Refusal := runTurn (nextTurn s).1 (nextTurn s).2

/-- The command a word of the opcode table stands for, placed where the next step takes its operation. -/
def State.withFetchWord (s : State) (nbits w : Nat) : State := placeRequest (commandOfWord s.cfg nbits w) s

end Sys2Proof.Machine
end

