-- ==== Sys2Proof/Safety.lean ====
section
/-! DEFINITION. What holds of every state a run reaches, runs of several operations, and the accounts of edges, in the terms the
statements use. -/

namespace Sys2Proof.Machine

/-- The tables have the capacity of R23 and R25, and the active count is within it (R31). -/
abbrev TablesSized (s : State) : Prop :=
  s.latches.length = s.cfg.maxSlots ∧ s.slots.length = s.cfg.maxSlots ∧ s.numSlots ≤ s.cfg.maxSlots

/-- A bound line is bound to an active slot that names it, for that slot's edge kind (R36, R96, R140), and its input mode
has been set (R99). -/
def BindingsCoherent (s : State) : Prop :=
  ∀ line b, bindingAt s line = some b →
    b.slot < s.numSlots ∧ (slotAt s b.slot).line = line ∧ edgeKindOf (slotAt s b.slot).mode = some b.kind ∧
      lineModeAt s line ≠ none

/-- An incomplete TICK has only active slots to drain, in ascending order (R116). -/
def TickCoherent (s : State) : Prop :=
  ∀ due, s.tick = .draining due → due.Pairwise (· < ·) ∧ ∀ i ∈ due, i < s.numSlots

/-- The invariant of the machine. -/
structure Inv (s : State) : Prop where
  sized : TablesSized s
  bound : BindingsCoherent s
  ticks : TickCoherent s

/-- The draws counted after one sample of the clock: one more where no reading was listed (R42, log 3). -/
def drawsAfterSample (s : State) : Nat := if s.clock = [] then s.draws + 1 else s.draws

/-- The line a CONFIG arms: its own, where the mode is recognized (R96, R101); none for another operation. -/
def armedLine (i : Instr) : Option Byte :=
  match i.configOperands with
  | some (line, mode, _) => if mode = .unrecognized then none else some line
  | none => none

/-- Operations performed one after the other, each on the state the one before left. -/
def runOps : List Instr → State → Result
  | [], s => .next s
  | i :: is, s =>
    match exec i s with
    | .next t => runOps is t
    | .fault f => .fault f
    | .refused r => .refused r

/-- `k` steps, stopping where the machine stops. -/
def runSteps : Nat → State → Result
  | 0, s => .next s
  | k + 1, s =>
    match step s with
    | .next t => runSteps k t
    | .fault f => .fault f
    | .refused r => .refused r

/-- The transitions of a list taking effect one after the other at one boundary (R158). -/
def runEdges (es : List EdgeEvent) (s : State) : Result := runOps (es.map decodeEdge) s

/-- What the next step adds to the count of slot `i`: one where an edge agent moves and its transition counts on `i` (R86). -/
def stepCounts (i : Nat) (s : State) : Word :=
  match (nextTurn s).1, s.edges with
  | some .edgeAgent, e :: _ =>
    if s.cfg.irqCapable e.line ∧ countedSlot s e.line e.dir = some i then 1#32 else 0#32
  | _, _ => 0#32

/-- What the next step reports of slot `i`: its latch where the poll loop moves and drains `i` (R121). -/
def stepDrains (i : Nat) (s : State) : Word :=
  match (nextTurn s).1, s.tick with
  | some .pollLoop, .draining (j :: _) => if j = i then latchAt s i else 0#32
  | _, _ => 0#32

/-- The sum of a step's amount over the first `k` steps. -/
def sumOver (amount : State → Word) : Nat → State → Word
  | 0, _ => 0#32
  | k + 1, s =>
    match step s with
    | .next t => amount s + sumOver amount k t
    | _ => 0#32

/-- Nothing but the poll loop can move, and it goes by itself: no turn is prescribed and no edge is pending. -/
abbrev OnlyPollLoop (s : State) : Prop := s.turns = [] ∧ s.edges = []

end Sys2Proof.Machine
end

