-- ==== Sys2Proof/Certificates/Slice0/Obligations.lean ====
section
/-! DEFINITION. The statements about the ECS, each from the rules of spec/ its docstring names. -/

open Sys2Proof Sys2Proof.Machine

/-! ### Encodings -/

/-- Encoding an operation and decoding it again gives it back, for every well-formed operation and output message, under
every choice of the parameters (R65, R67, R70, R71, R72, R78, R79, R81). -/
def Obligations.EncodedOperationsDecodeBack : Prop :=
  ∀ (c : Config) (i : Instr), WellFormed c i = true → decode c (encode c i) = .ok i

/-- Whatever the decoder answers is well-formed: no transaction decodes to an operation outside its encoding space. -/
def Obligations.DecodedOperationsAreWellFormed : Prop :=
  ∀ (c : Config) (t : Transaction) (i : Instr), decode c t = .ok i → WellFormed c i = true

/-- Commands written out byte by byte from R65, R70 and R71, one for each row of R67. -/
def Obligations.CommandBytesDecode : Prop :=
  ∀ c : Config,
    decodePoll c (.command c.cmdConfig [0x03, 0x00, 0x01, 0x2C]) = .ok (.configChange 0x03 0x01 0x2C) ∧
    decodePoll c (.command c.cmdConfig [0x03, 0x01, 0x00, 0x64]) = .ok (.configRising 0x03 0x00 0x64) ∧
    decodePoll c (.command c.cmdConfig [0x03, 0x02, 0x00, 0x64]) = .ok (.configFalling 0x03 0x00 0x64) ∧
    decodePoll c (.command c.cmdConfig [0x03, 0x03, 0x00, 0x64]) = .ok (.configChangePu 0x03 0x00 0x64) ∧
    decodePoll c (.command c.cmdConfig [0x03, 0x04, 0x00, 0x64]) = .ok (.configRisingPu 0x03 0x00 0x64) ∧
    decodePoll c (.command c.cmdConfig [0x03, 0x05, 0x00, 0x64]) = .ok (.configFallingPu 0x03 0x00 0x64) ∧
    decodePoll c (.command c.cmdConfig [0x03, 0x11, 0x00, 0x64]) = .ok (.configUnrecognized 0x03 0x11 0x00 0x64) ∧
    decodePoll c (.command c.cmdQuery [0x01, 0x02, 0x03]) = .ok (.query [0x01, 0x02, 0x03])

/-- The trigger-mode byte: the six values of R67 and, for every other byte, UNRECOGNIZED. -/
def Obligations.TriggerModeTable : Prop :=
  ∀ m : Byte,
    (decodeMode m = .change ↔ m = 0x00#8) ∧ (decodeMode m = .rising ↔ m = 0x01#8) ∧
    (decodeMode m = .falling ↔ m = 0x02#8) ∧ (decodeMode m = .changePu ↔ m = 0x03#8) ∧
    (decodeMode m = .risingPu ↔ m = 0x04#8) ∧ (decodeMode m = .fallingPu ↔ m = 0x05#8) ∧
    (decodeMode m = .unrecognized ↔ 6 ≤ m.toNat) ∧
    (edgeKindOf (decodeMode m), inputModeOf (decodeMode m)) =
      (if m = 0x00#8 then (some .change, some .input) else if m = 0x01#8 then (some .rising, some .input)
       else if m = 0x02#8 then (some .falling, some .input) else if m = 0x03#8 then (some .change, some .inputPullup)
       else if m = 0x04#8 then (some .rising, some .inputPullup)
       else if m = 0x05#8 then (some .falling, some .inputPullup) else (none, none))

/-- The interval is the number its two bytes spell, high byte first (R66). -/
def Obligations.IntervalIsHighThenLow : Prop :=
  ∀ high low : Byte, (intervalOf high low).toNat = 256 * high.toNat + low.toNat

/-- A value's four bytes, most significant first, spell it (R48, R75). -/
def Obligations.ValueBytesSpellTheValue : Prop :=
  ∀ v : Word, ∃ a b c d : Byte, bytesBE v = [a, b, c, d] ∧
    v.toNat = 16777216 * a.toNat + 65536 * b.toNat + 256 * c.toNat + d.toNat

/-- Decoding an encoded report payload recovers the mask and the values, for every mask and as many values as it has bits
(R78, R128). -/
def Obligations.ReportPayloadRoundTrip : Prop :=
  ∀ (mask : Byte) (values : List Word), values.length = (maskSlots mask).length →
    decodeReport (encodePayload mask values) = some (mask, values)

/-- A CONFIG whose payload is not four bytes long is refused when it is taken: by the poll loop at a boundary, because it
alone can move or because its turn is prescribed, and by the host out of turn, whatever a TICK does (R65, R95, R151(a);
turns: log 5). -/
def Obligations.WrongPayloadLengthIsRefused : Prop :=
  ∀ (s : State) (payload : List Byte) (rest : List PollRequest),
    s.polls = .command s.cfg.cmdConfig payload :: rest → payload.length ≠ 4 →
    (OnlyPollLoop s → s.tick = .idle → step s = .refused (.payloadLength payload.length)) ∧
    (∀ ts, s.turns = .pollLoop :: ts → s.tick = .idle → step s = .refused (.payloadLength payload.length)) ∧
    (∀ ts, s.turns = .host :: ts → step s = .refused (.payloadLength payload.length))

/-! ### Steps -/

/-- A step runs the decoded operation: where the poll loop has the turn at a boundary, because it alone can move or
because the turn is prescribed, the oldest presented transaction is decoded and performed on the state without it; where
the host presents it out of turn, it is performed too, whatever a TICK does (R20, R39; turns: log 5). -/
def Obligations.StepRunsThePresentedOperation : Prop :=
  ∀ (s : State) (r : PollRequest) (rest : List PollRequest) (i : Instr),
    s.polls = r :: rest → decodePoll s.cfg r = .ok i →
    (OnlyPollLoop s → s.tick = .idle → step s = exec i { s with polls := rest }) ∧
    (∀ ts, s.turns = .pollLoop :: ts → s.tick = .idle → step s = exec i { s with polls := rest, turns := ts }) ∧
    (∀ ts, s.turns = .host :: ts → step s = exec i { s with polls := rest, turns := ts })

/-- A step of an edge agent, because it alone can move or because the turn is prescribed, runs EDGE for the oldest pending
transition of a line that can interrupt, and drops that of a line that cannot, since such a line never delivers an EDGE
(R154, R155; logs 5 and 7). -/
def Obligations.StepRunsThePendingEdge : Prop :=
  ∀ (s : State) (e : EdgeEvent) (es : List EdgeEvent), s.edges = e :: es →
    (s.turns = [] → pollReady s = false →
      step s = if s.cfg.irqCapable e.line then exec (.edge e.line e.dir) { s with edges := es }
        else .next { s with edges := es }) ∧
    (∀ ts, s.turns = .edgeAgent :: ts →
      step s = if s.cfg.irqCapable e.line then exec (.edge e.line e.dir) { s with turns := ts, edges := es }
        else .next { s with turns := ts, edges := es })

/-- While a TICK is incomplete, the poll loop's turn is its next micro-step, whatever else has been presented (R113). -/
def Obligations.StepContinuesTheTick : Prop :=
  ∀ (s : State) (due : List Nat), s.tick = .draining due →
    (OnlyPollLoop s → step s = .next (tickMicroStep s)) ∧
    (∀ ts, s.turns = .pollLoop :: ts → step s = .next (tickMicroStep { s with turns := ts }))

/-- With nothing presented and no TICK incomplete, nothing happens: the model's reading of a reactive block (log 4). -/
def Obligations.NothingPresentedNothingHappens : Prop :=
  ∀ s : State, OnlyPollLoop s → s.tick = .idle → s.polls = [] → step s = .next s

/-- Where both agents could move and no turn is prescribed, the step is the one agent's or the other's, for every value of
the free choice (R58, R159; log 5). -/
def Obligations.EitherAgentMayMove : Prop :=
  ∀ s : State, s.turns = [] → pollReady s = true → s.edges ≠ [] →
    step s = runPollLoop { s with draws := s.draws + 1 } ∨ step s = runEdgeAgent { s with draws := s.draws + 1 }

/-- Every poll-loop operation, and every output message, presented while a TICK is incomplete is refused (R151(c)). -/
def Obligations.IncompleteTickRefusesOperations : Prop :=
  ∀ (s : State) (due : List Nat) (i : Instr), s.tick = .draining due → i.port ≠ .edge →
    exec i s = .refused .tickIncomplete

/-- An edge that races the drain of its slot is counted in this drain or left for the next, by the order taken: both
orders are steps of the machine, and none loses or doubles it (R59, R89, R159). -/
def Obligations.EdgeRacingADrainIsCountedOnce : Prop :=
  ∀ (s : State) (i : Nat) (due : List Nat) (e : EdgeEvent) (es : List EdgeEvent) (ts : List Turn),
    Inv s → s.tick = .draining (i :: due) → s.edges = e :: es → s.cfg.irqCapable e.line = true →
    countedSlot s e.line e.dir = some i →
    (s.turns = .edgeAgent :: .pollLoop :: ts → ∃ u, runSteps 2 s = .next u ∧
      u.output = s.output ++ bytesBE (latchAt s i + 1#32) ∧ latchAt u i = 0#32) ∧
    (s.turns = .pollLoop :: .edgeAgent :: ts → ∃ u, runSteps 2 s = .next u ∧
      u.output = s.output ++ bytesBE (latchAt s i) ∧ latchAt u i = 1#32)

/-- One clock sample returns the first listed reading and uses up that reading alone; with none listed it returns the free
value of the counter and changes that counter alone (R42; the list and the counter are the model's own: log 3). -/
def Obligations.ClockSampleUsesUpOneReading : Prop :=
  (∀ (s : State) (t : Word) (ts : List Word), s.clock = t :: ts →
    clockReading s = t ∧ afterSample s = { s with clock := ts } ∧ drawsAfterSample s = s.draws) ∧
  (∀ s : State, s.clock = [] →
    clockReading s = Config.freeClock s.draws ∧ afterSample s = { s with draws := s.draws + 1 } ∧
      drawsAfterSample s = s.draws + 1)

/-! ### EDGE -/

/-- EDGE on a line bound to slot `i` for a kind its direction qualifies for adds one to latch `i`, modulo 2^32; any other
EDGE changes nothing; no EDGE changes anything else (R86, R90). It completes in every state, a TICK incomplete or not. -/
def Obligations.EdgeCountsOnItsSlot : Prop :=
  ∀ (s : State) (line : Byte) (d : Direction), Inv s →
    ∃ t, exec (.edge line d) s = .next t ∧ t = { s with latches := t.latches } ∧
      t.latches.length = s.latches.length ∧
      ∀ j, ((∃ k, bindingAt s line = some ⟨j, k⟩ ∧ qualifies k d = true) → latchAt t j = latchAt s j + 1#32) ∧
        ((¬∃ k, bindingAt s line = some ⟨j, k⟩ ∧ qualifies k d = true) → latchAt t j = latchAt s j)

/-- CHANGE counts both directions, RISING low to high only, FALLING high to low only; an EDGE that counts adds one to the
latch of its slot, one that does not has no effect (R85, R86). The meanings are general knowledge, not the source's: log 11. -/
def Obligations.EdgeKindsCountTheirDirections : Prop :=
  (∀ d, qualifies .change d = true) ∧ qualifies .rising .rise = true ∧ qualifies .rising .fall = false ∧
  qualifies .falling .fall = true ∧ qualifies .falling .rise = false ∧
  ∀ (s : State) (line : Byte) (d : Direction) (i : Nat) (k : EdgeKind), Inv s → bindingAt s line = some ⟨i, k⟩ →
    ∃ t, exec (.edge line d) s = .next t ∧
      (k = .change ∨ (k = .rising ∧ d = .rise) ∨ (k = .falling ∧ d = .fall) → latchAt t i = latchAt s i + 1#32) ∧
      ((k = .rising ∧ d = .fall) ∨ (k = .falling ∧ d = .rise) → t = s)

/-- EDGE on an unbound line, or in a direction the bound kind does not count, has no effect (R87). -/
def Obligations.EdgeWithoutEffect : Prop :=
  ∀ (s : State) (line : Byte) (d : Direction),
    (bindingAt s line = none ∨ ∃ b, bindingAt s line = some b ∧ qualifies b.kind d = false) →
    exec (.edge line d) s = .next s

/-- A latch at its top wraps to zero (R88). -/
def Obligations.LatchWrapsToZero : Prop :=
  ∀ (s : State) (line : Byte) (d : Direction) (i : Nat), Inv s → countedSlot s line d = some i →
    latchAt s i = 0xFFFFFFFF#32 → ∃ t, exec (.edge line d) s = .next t ∧ latchAt t i = 0#32

/-- The input modes of the lines do not enter EDGE (R91). -/
def Obligations.InputModesDoNotEnterEdge : Prop :=
  ∀ (s : State) (line : Byte) (d : Direction) (modes : Vector (Option InputMode) 256),
    ∃ t, exec (.edge line d) s = .next t ∧
      exec (.edge line d) { s with lineModes := modes } = .next { t with lineModes := modes }

/-- Any number of EDGEs of any lines give the same state in every order (R158). -/
def Obligations.EdgesCommute : Prop :=
  ∀ (s : State) (es fs : List EdgeEvent), es.Perm fs → ∃ t, runEdges es s = .next t ∧ runEdges fs s = .next t

/-! ### CONFIG, QUERY, UNKNOWN -/

/-- CONFIG of any mode on a full table answers false and changes nothing else: no slot, no resync, no sample, no byte, no
diagnostic (R97). -/
def Obligations.ConfigOnAFullTable : Prop :=
  ∀ (s : State) (i : Instr) (line high low : Byte) (m : TriggerMode),
    i.configOperands = some (line, m, high, low) → s.tick = .idle → s.numSlots = s.cfg.maxSlots →
    exec i s = .next { s with answers := s.answers ++ [false] }

/-- CONFIG with a recognized mode and a free slot, on a line it may arm, completes: it writes every field of slot
`numSlots` and zeroes its latch, sets the line's input mode, binds the line, gives every active slot one epoch, counts the
slot and answers true. Every other slot keeps its other fields, every other latch its count, every other line its binding
and mode, and everything else stays but for one clock sample, the first listed reading or a draw (log 3)
(R96, R99, R100, R102, R107). -/
def Obligations.ConfigAllocatesAndArms : Prop :=
  ∀ (s : State) (i : Instr) (line high low : Byte) (m : TriggerMode) (k : EdgeKind) (im : InputMode),
    i.configOperands = some (line, m, high, low) → edgeKindOf m = some k → inputModeOf m = some im →
    Inv s → s.tick = .idle → s.numSlots < s.cfg.maxSlots →
    (bindingAt s line = none ∨ s.cfg.dupLine = .replace) →
    ∃ t, exec i s = .next t ∧
      t = { s with
            clock := s.clock.tail, draws := drawsAfterSample s,
            latches := t.latches, slots := t.slots, numSlots := s.numSlots + 1, bindings := t.bindings,
            lineModes := t.lineModes, answers := s.answers ++ [true] } ∧
      t.latches.length = s.latches.length ∧ t.slots.length = s.slots.length ∧
      slotAt t s.numSlots = ⟨line, m, intervalOf high low, clockReading s, 0#32⟩ ∧
      (∀ j, j < s.numSlots → slotAt t j = { slotAt s j with lastTime := clockReading s }) ∧
      (∀ j, s.numSlots < j → slotAt t j = slotAt s j) ∧
      latchAt t s.numSlots = 0#32 ∧ (∀ j, j ≠ s.numSlots → latchAt t j = latchAt s j) ∧
      bindingAt t line = some ⟨s.numSlots, k⟩ ∧ (∀ l, l ≠ line → bindingAt t l = bindingAt s l) ∧
      lineModeAt t line = some im ∧ (∀ l, l ≠ line → lineModeAt t l = lineModeAt s l)

/-- CONFIG with an unrecognized mode byte and a free slot completes as any other, answering true, but leaves every line's
binding and input mode as they were (R96, R101; the clock sample: log 3). -/
def Obligations.ConfigUnrecognizedArmsNothing : Prop :=
  ∀ (s : State) (line mode high low : Byte),
    Inv s → s.tick = .idle → s.numSlots < s.cfg.maxSlots →
    ∃ t, exec (.configUnrecognized line mode high low) s = .next t ∧
      t = { s with
            clock := s.clock.tail, draws := drawsAfterSample s,
            latches := t.latches, slots := t.slots, numSlots := s.numSlots + 1, answers := s.answers ++ [true] } ∧
      t.latches.length = s.latches.length ∧ t.slots.length = s.slots.length ∧
      slotAt t s.numSlots = ⟨line, .unrecognized, intervalOf high low, clockReading s, 0#32⟩ ∧
      (∀ j, j < s.numSlots → slotAt t j = { slotAt s j with lastTime := clockReading s }) ∧
      (∀ j, s.numSlots < j → slotAt t j = slotAt s j) ∧
      latchAt t s.numSlots = 0#32 ∧ (∀ j, j ≠ s.numSlots → latchAt t j = latchAt s j)

/-- Under the policy REFUSE, a CONFIG that would arm a bound line is refused (R36, R151(b)). -/
def Obligations.ConfigRefusesABoundLine : Prop :=
  ∀ (s : State) (i : Instr) (line high low : Byte) (m : TriggerMode) (b : Binding),
    i.configOperands = some (line, m, high, low) → m ≠ .unrecognized → s.tick = .idle →
    s.numSlots ≠ s.cfg.maxSlots → s.cfg.dupLine = .refuse → bindingAt s line = some b →
    exec i s = .refused (.lineAlreadyBound line)

/-- From an empty table, `N` CONFIGs that none is refused allocate exactly slots `0 .. N-1` in arrival order, each
answering true; where `N` is the capacity, one more answers false and allocates nothing (R98). Under REFUSE none is refused
where those of a recognized mode name lines that are unbound and pairwise different; the others arm no line (R36, R101). -/
def Obligations.ConfigsAllocateDensely : Prop :=
  ∀ (s : State) (ops : List Instr), Inv s → s.tick = .idle → s.numSlots = 0 → ops.length ≤ s.cfg.maxSlots →
    (∀ i ∈ ops, i.configOperands ≠ none) →
    (s.cfg.dupLine = .replace ∨
      ((ops.filterMap armedLine).Nodup ∧ ∀ line ∈ ops.filterMap armedLine, bindingAt s line = none)) →
    ∃ t, runOps ops s = .next t ∧ t.numSlots = ops.length ∧
      t.answers = s.answers ++ List.replicate ops.length true ∧
      (∀ (j : Nat) (hj : j < ops.length) (line high low : Byte) (m : TriggerMode),
        ops[j].configOperands = some (line, m, high, low) →
        (slotAt t j).line = line ∧ (slotAt t j).mode = m ∧ (slotAt t j).interval = intervalOf high low) ∧
      (ops.length = s.cfg.maxSlots → ∀ i, i.configOperands ≠ none →
        exec i t = .next { t with answers := t.answers ++ [false] })

/-- QUERY answers true and does nothing else, whatever its payload and whatever is due (R104, R105). -/
def Obligations.QueryIsInert : Prop :=
  ∀ (s : State) (payload : List Byte), s.tick = .idle →
    exec (.query payload) s = .next { s with answers := s.answers ++ [true] }

/-- UNKNOWN raises its diagnostic, answers false and does nothing else (R106). -/
def Obligations.UnknownCommandIsRejected : Prop :=
  ∀ (s : State) (code : Byte) (payload : List Byte), s.tick = .idle →
    exec (.unknown code payload) s =
      .next { s with answers := s.answers ++ [false], diags := s.diags ++ [.unknownCmd code] }

/-! ### TICK -/

/-- A slot is due exactly when the clock is past its last time by more than its interval, both unsigned and the difference
modulo 2^32; nothing else of the slot enters (R114, R115). -/
def Obligations.DueIsStrictlyPastTheInterval : Prop :=
  ∀ (x : Slot) (t : Word),
    isDue x t = true ↔ x.interval.toNat < (t.toNat + 4294967296 - x.lastTime.toNat) % 4294967296

/-- TICK with no active slot does nothing, not even sample the clock (R118). -/
def Obligations.TickWithoutSlotsDoesNothing : Prop :=
  ∀ s : State, s.tick = .idle → s.numSlots = 0 → exec .tick s = .next s

/-- TICK with no due slot takes one clock sample, the first listed reading or a draw (log 3), and does nothing else
(R119). -/
def Obligations.TickWithNothingDueOnlySamples : Prop :=
  ∀ s : State, s.tick = .idle → s.numSlots ≠ 0 →
    (∀ i, i < s.numSlots →
      ((clockReading s).toNat + 4294967296 - (slotAt s i).lastTime.toNat) % 4294967296 ≤ (slotAt s i).interval.toNat) →
    exec .tick s = .next { s with clock := s.clock.tail, draws := drawsAfterSample s }

/-- TICK with a due slot completes micro-step 1: one sample, the two markers and the mask emitted, bit `j` of the mask set
exactly for the due active slots, and those slots left to drain in ascending order (R116, R117; the clock sample: log 3). -/
def Obligations.TickOpensAFrame : Prop :=
  ∀ s : State, Inv s → s.tick = .idle → (∃ i, i < s.numSlots ∧ isDue (slotAt s i) (clockReading s) = true) →
    ∃ (due : List Nat) (mask : Byte),
      exec .tick s = .next { s with
        clock := s.clock.tail, draws := drawsAfterSample s,
        tick := .draining due, output := s.output ++ [s.cfg.frameStart, s.cfg.responseTag, mask] } ∧
      due.Pairwise (· < ·) ∧
      (∀ i, i ∈ due ↔ i < s.numSlots ∧ isDue (slotAt s i) (clockReading s) = true) ∧
      (∀ j, j < 8 → (mask.getLsbD j = true ↔ j < s.numSlots ∧ isDue (slotAt s j) (clockReading s) = true))

/-- Micro-step 2.i drains the next due slot: its last time moves by its interval, its value is what its latch held, the
latch is zero, four bytes go out most significant first, and nothing else changes (R116, R120, R121). -/
def Obligations.DrainMicroStepReportsTheLatch : Prop :=
  ∀ (s : State) (i : Nat) (due : List Nat), Inv s → s.tick = .draining (i :: due) →
    ∃ t, tickMicroStep s = t ∧
      t = { s with latches := t.latches, slots := t.slots, tick := .draining due, output := s.output ++ bytesBE (latchAt s i) } ∧
      t.latches.length = s.latches.length ∧ t.slots.length = s.slots.length ∧
      latchAt t i = 0#32 ∧ (∀ j, j ≠ i → latchAt t j = latchAt s j) ∧
      slotAt t i = { slotAt s i with
        lastTime := (slotAt s i).lastTime + (slotAt s i).interval.setWidth 32, lastValue := latchAt s i } ∧
      (∀ j, j ≠ i → slotAt t j = slotAt s j)

/-- Micro-step 3 ends the frame and the TICK, and changes nothing else (R116, R122). -/
def Obligations.CloseMicroStepEndsTheFrame : Prop :=
  ∀ s : State, s.tick = .draining [] →
    tickMicroStep s = { s with output := s.output ++ [s.cfg.frameEnd], tick := .idle }

/-- A whole TICK that no edge interrupts is the pseudocode of R116: no slots, nothing at all; nothing due, one sample; else
in `k + 2` steps for `k` due slots one frame `EncodeReport(mask, vals)` with bit `j` of the mask for due slot `j` and the
due latches' values ascending, each due slot's last time moved by its interval and its latch drained, and nothing else
changed. The clock sample: log 3. -/
def Obligations.TickReportsEveryDueSlot : Prop :=
  ∀ (s : State) (rest : List PollRequest), Inv s → OnlyPollLoop s → s.tick = .idle → s.polls = .tick :: rest →
    if s.numSlots = 0 then step s = .next { s with polls := rest }
    else if dueSlots s (clockReading s) = [] then step s = .next { s with
      clock := s.clock.tail, draws := drawsAfterSample s, polls := rest }
    else ∃ u, runSteps ((dueSlots s (clockReading s)).length + 2) s = .next u ∧
      u = { s with
        clock := s.clock.tail, draws := drawsAfterSample s, polls := rest, latches := u.latches, slots := u.slots, output := u.output } ∧
      u.latches.length = s.latches.length ∧ u.slots.length = s.slots.length ∧
      (∃ mask : Byte, u.output = s.output ++ encodeReport s.cfg mask ((dueSlots s (clockReading s)).map (latchAt s)) ∧
        maskSlots mask = dueSlots s (clockReading s)) ∧
      (∀ j, j < s.numSlots → isDue (slotAt s j) (clockReading s) = true →
        latchAt u j = 0#32 ∧ slotAt u j = { slotAt s j with
          lastTime := (slotAt s j).lastTime + (slotAt s j).interval.setWidth 32, lastValue := latchAt s j }) ∧
      (∀ j, ¬(j < s.numSlots ∧ isDue (slotAt s j) (clockReading s) = true) →
        latchAt u j = latchAt s j ∧ slotAt u j = slotAt s j)

/-- The frame of a TICK has one to `numSlots` values: `4 + 4k` bytes, at least 8 and at most `4 + 4 * MAX_SLOTS` (R76). -/
def Obligations.FrameLengths : Prop :=
  ∀ (s : State) (t : Word), Inv s → dueSlots s t ≠ [] →
    (maskSlots (maskOf (dueSlots s t))).length = (dueSlots s t).length ∧
    1 ≤ (dueSlots s t).length ∧ (dueSlots s t).length ≤ s.numSlots ∧ s.numSlots ≤ s.cfg.maxSlots ∧
    (encodePayload (maskOf (dueSlots s t)) ((dueSlots s t).map (latchAt s))).length = 1 + 4 * (dueSlots s t).length ∧
    (encodeReport s.cfg (maskOf (dueSlots s t)) ((dueSlots s t).map (latchAt s))).length =
      4 + 4 * (dueSlots s t).length

/-- A slot more than twice its interval behind is still due after its report, at the same reading (R123). -/
def Obligations.CatchUpSlotStaysDue : Prop :=
  ∀ (s : State) (i : Nat) (due : List Nat) (t : Word), Inv s → s.tick = .draining (i :: due) →
    2 * (slotAt s i).interval.toNat < (elapsed (slotAt s i) t).toNat →
    isDue (slotAt (tickMicroStep s) i) t = true

/-- Every slot of interval zero is due at every reading but its last time, which its report does not move (R124). -/
def Obligations.IntervalZeroIsDueOffItsEpoch : Prop :=
  (∀ (x : Slot) (t : Word), x.interval = 0#16 → (isDue x t = true ↔ t ≠ x.lastTime)) ∧
  ∀ (s : State) (i : Nat) (due : List Nat), Inv s → s.tick = .draining (i :: due) → (slotAt s i).interval = 0#16 →
    (slotAt (tickMicroStep s) i).lastTime = (slotAt s i).lastTime

/-- REPORT put on the sink by the framer: exactly the bytes of R72 in their order, and nothing else changed. -/
def Obligations.ReportPutsItsFrameOnTheSink : Prop :=
  ∀ (s : State) (mask : Byte) (values : List Word), s.tick = .idle → WellFormed s.cfg (.report mask values) = true →
    exec (.report mask values) s = .next { s with
      output := s.output ++ ([s.cfg.frameStart, s.cfg.responseTag, mask] ++ values.flatMap bytesBE ++ [s.cfg.frameEnd]) }

/-- An output message that the framer can not emit is refused by name, a frame for no slot is no frame at all, and no
other answer exists: with the two statements on the messages it can emit, these are all forms (R76, R77, R138; log 9). -/
def Obligations.MalformedMessagesAreRefused : Prop :=
  ∀ (s : State) (mask count : Byte) (values : List Word), s.tick = .idle →
    exec (.report 0x00#8 []) s = .next s ∧
    (WellFormed s.cfg (.report mask values) = false → (mask ≠ 0x00#8 ∨ values ≠ []) →
      exec (.report mask values) s = .refused .malformedMessage) ∧
    (count.toNat ≠ s.cfg.maxSlots → exec (.capabilityResponse count) s = .refused .malformedMessage)

/-! ### PIN_MODE, CAPABILITY, RESET -/

/-- PIN_MODE with the counting mode on a capable line sets INPUT and answers true; otherwise it answers false; it changes
nothing else, the line's binding among it (R134, R135, R136). -/
def Obligations.PinModeSetsInput : Prop :=
  ∀ (s : State) (line mode : Byte), s.tick = .idle →
    ∃ t, exec (.pinMode line mode) s = .next t ∧
      t = { s with
            lineModes := t.lineModes,
            answers := s.answers ++ [decide (mode = s.cfg.countMode ∧ s.cfg.irqCapable line = true)] } ∧
      ∀ l, lineModeAt t l =
        if l = line ∧ mode = s.cfg.countMode ∧ s.cfg.irqCapable line = true then some .input else lineModeAt s l

/-- CAPABILITY on a capable line emits the counting mode and the capacity as one byte and answers true; on another line it
emits nothing and answers false; it changes nothing else (R137, R138, R139). -/
def Obligations.CapabilityAdvertisesTheCapacity : Prop :=
  ∀ (s : State) (line : Byte), s.tick = .idle →
    ∃ n : Byte, n.toNat = s.cfg.maxSlots ∧
      exec (.capability line) s =
        if s.cfg.irqCapable line then .next { s with
          output := s.output ++ [s.cfg.countMode, n], answers := s.answers ++ [true] }
        else .next { s with answers := s.answers ++ [false] }

/-- CAPABILITY_RESPONSE put on the sink: the counting mode and the count, and nothing else changed (R79). -/
def Obligations.CapabilityResponsePutsTwoBytesOnTheSink : Prop :=
  ∀ (s : State) (count : Byte), s.tick = .idle → WellFormed s.cfg (.capabilityResponse count) = true →
    exec (.capabilityResponse count) s = .next { s with output := s.output ++ [s.cfg.countMode, count] }

/-- RESET unbinds exactly the lines the active slots name and sets the count to zero; latches, slot fields, input modes,
output and answers stay (R140). -/
def Obligations.ResetDisarmsTheActiveSlots : Prop :=
  ∀ s : State, Inv s → s.tick = .idle →
    ∃ t, exec .reset s = .next t ∧ t = { s with bindings := t.bindings, numSlots := 0 } ∧
      ∀ l, ((∃ i, i < s.numSlots ∧ (slotAt s i).line = l) → bindingAt t l = none) ∧
        ((¬∃ i, i < s.numSlots ∧ (slotAt s i).line = l) → bindingAt t l = bindingAt s l)

/-- After a RESET no line at all is bound, a TICK does nothing, no EDGE counts, and a second RESET changes nothing
(R143, R144, R174). -/
def Obligations.ResetSilencesTheMachine : Prop :=
  ∀ s : State, Inv s → s.tick = .idle →
    ∃ t, exec .reset s = .next t ∧ t.numSlots = 0 ∧ (∀ l, bindingAt t l = none) ∧
      exec .tick t = .next t ∧ exec .reset t = .next t ∧ ∀ l d, exec (.edge l d) t = .next t

/-! ### The whole machine -/

/-- At power-on no slot is active, no line is bound, no input mode is set, the sink is empty and no TICK is incomplete
(R171). -/
def Obligations.PowerOnState : Prop :=
  State.reset.numSlots = 0 ∧ (∀ l, bindingAt State.reset l = none) ∧ (∀ l, lineModeAt State.reset l = none) ∧
    State.reset.output = [] ∧ State.reset.tick = .idle ∧
    State.reset.latches.length = State.reset.cfg.maxSlots ∧ State.reset.slots.length = State.reset.cfg.maxSlots

/-- The power-on state meets the invariant. -/
def Obligations.PowerOnMeetsTheInvariant : Prop := Inv State.reset

/-- Every step keeps the invariant: the tables keep their capacity, the count stays within it, every bound line is bound to
an active slot that names it, and an incomplete TICK drains active slots in ascending order. -/
def Obligations.EveryStepKeepsTheInvariant : Prop := ∀ s t : State, Inv s → step s = .next t → Inv t

/-- No step writes the parameters (R8, R41). -/
def Obligations.NoStepWritesTheParameters : Prop := ∀ s t : State, step s = .next t → t.cfg = s.cfg

/-- The sink only grows (R43), and so do the answers and the diagnostics, the observation of a run (R170). That the three
stand in the state as lists is the model's reading: log 10. -/
def Obligations.PortTracesOnlyGrow : Prop :=
  ∀ s t : State, step s = .next t → s.output <+: t.output ∧ s.answers <+: t.answers ∧ s.diags <+: t.diags

/-- Only TICK, CAPABILITY and the output messages they put out emit a byte; a command emits none (R108). That the messages
are operations of their own is the model's choice: log 9. -/
def Obligations.OnlyTickAndCapabilityEmit : Prop :=
  ∀ (s t : State) (i : Instr), exec i s = .next t →
    i.port ≠ .tick → i.port ≠ .capability → i.port ≠ .output → t.output = s.output

/-- Commands, pin-mode and capability requests answer exactly once; TICK, RESET and EDGE never (R40).
That the answers stand in the state as a list is log 10. That the output messages are operations, and answer nothing, is the model's choice: log 9. -/
def Obligations.AnswersByPort : Prop :=
  ∀ (s t : State) (i : Instr), exec i s = .next t →
    (i.port = .command ∨ i.port = .pinMode ∨ i.port = .capability → ∃ b, t.answers = s.answers ++ [b]) ∧
    (¬(i.port = .command ∨ i.port = .pinMode ∨ i.port = .capability) → t.answers = s.answers)

/-- The active count is within the capacity; RESET sets it to zero, a CONFIG that answers true adds one, and no other
operation and no micro-step of TICK writes it (R30). -/
def Obligations.OnlyConfigAndResetMoveTheCount : Prop :=
  (∀ (s t : State) (i : Instr), Inv s → exec i s = .next t →
    t.numSlots ≤ t.cfg.maxSlots ∧ (i = .reset → t.numSlots = 0) ∧
    (i.configOperands ≠ none → t.answers = s.answers ++ [true] → t.numSlots = s.numSlots + 1) ∧
    (i.configOperands ≠ none → t.answers ≠ s.answers ++ [true] → t.numSlots = s.numSlots) ∧
    (i ≠ .reset → i.configOperands = none → t.numSlots = s.numSlots)) ∧
  ∀ s : State, (tickMicroStep s).numSlots = s.numSlots

/-- A step never writes the line, mode or interval of an active slot, and moves its last time only by its interval, when
it drains the slot, or to one epoch shared by every active slot, when a CONFIG adds a slot (R28, R100, R129). -/
def Obligations.GridPointsMoveByIntervalOrResync : Prop :=
  ∀ (s t : State) (i : Nat), Inv s → step s = .next t → i < s.numSlots →
    (slotAt t i).line = (slotAt s i).line ∧ (slotAt t i).mode = (slotAt s i).mode ∧
    (slotAt t i).interval = (slotAt s i).interval ∧
    ((slotAt t i).lastTime = (slotAt s i).lastTime ∨
      ((∃ due, s.tick = .draining (i :: due)) ∧
        (slotAt t i).lastTime = (slotAt s i).lastTime + (slotAt s i).interval.setWidth 32) ∨
      (t.numSlots = s.numSlots + 1 ∧ ∃ epoch, ∀ j, j < t.numSlots → (slotAt t j).lastTime = epoch))

/-- No edge is lost or counted twice: over any run in which slot `i` stays active, what its latch holds at the end and all
that was reported of it make up what its latch held at the start and all the edges that counted on it, modulo 2^32
(R59, R184). -/
def Obligations.NoEdgeIsLostOrCountedTwice : Prop :=
  ∀ (k i : Nat) (s u : State), Inv s → runSteps k s = .next u →
    (∀ j v, j ≤ k → runSteps j s = .next v → i < v.numSlots) →
    latchAt u i + sumOver (stepDrains i) k s = latchAt s i + sumOver (stepCounts i) k s
end

