-- ==== Sys2Proof/Laws/Decode.lean ====
section
/-! SUPPORT. The byte order of values and intervals as arithmetic, and what each part of the decoder reads. -/

namespace Sys2Proof

/-- Appending a byte below a number. -/
theorem shift_or_byte (x : Nat) (b : Byte) : x <<< 8 ||| b.toNat = 256 * x + b.toNat := by
  rw [← Nat.shiftLeft_add_eq_or_of_lt b.isLt, Nat.shiftLeft_eq]
  omega

/-- The number four bytes spell, most significant first. -/
theorem wordBE_toNat (a b c d : Byte) :
    (wordBE a b c d).toNat = 256 * (256 * (256 * a.toNat + b.toNat) + c.toNat) + d.toNat := by
  simp only [wordBE, BitVec.toNat_append, shift_or_byte]

/-- The four bytes of the value of four bytes. -/
theorem bytesBE_wordBE (a b c d : Byte) : bytesBE (wordBE a b c d) = [a, b, c, d] := by
  simp only [bytesBE, List.cons.injEq, and_true]
  refine ⟨?_, ?_, ?_, ?_⟩ <;>
    (apply BitVec.eq_of_toNat_eq
     rw [BitVec.extractLsb'_toNat, wordBE_toNat, Nat.shiftRight_eq_div_pow]
     omega)

/-- The value of the four bytes of a value. -/
theorem wordBE_bytesBE (v : Word) :
    wordBE (v.extractLsb' 24 8) (v.extractLsb' 16 8) (v.extractLsb' 8 8) (v.extractLsb' 0 8) = v := by
  apply BitVec.eq_of_toNat_eq
  simp only [wordBE_toNat, BitVec.extractLsb'_toNat, Nat.shiftRight_eq_div_pow]
  omega

@[simp] theorem bytesBE_length (v : Word) : (bytesBE v).length = 4 := rfl

/-- A value of as many bits read takes four bytes for each set bit, ascending. -/
theorem readValues_flatMap (mask : Byte) (js : List Nat) (vs : List Word) (rest : List Byte)
    (h : vs.length = (js.filter (fun j => mask.getLsbD j)).length) :
    readValues mask js (vs.flatMap bytesBE ++ rest) = some (vs, rest) := by
  induction js generalizing vs with
  | nil =>
    obtain rfl : vs = [] := List.eq_nil_of_length_eq_zero h
    rfl
  | cons j js ih =>
    by_cases hj : mask.getLsbD j = true
    · cases vs with
      | nil => simp [hj] at h
      | cons v vs =>
        have hv : vs.length = (js.filter (fun j => mask.getLsbD j)).length := by simpa [hj] using h
        simp only [readValues, hj, if_true, List.flatMap_cons, bytesBE, List.cons_append, List.nil_append, ih vs hv,
          Option.map_some, wordBE_bytesBE]
    · have hv : vs.length = (js.filter (fun j => mask.getLsbD j)).length := by simpa [hj] using h
      simp only [readValues, hj, Bool.false_eq_true, if_false, ih vs hv]

/-- How many values `readValues` reads. -/
theorem readValues_length {mask : Byte} {js : List Nat} {p rest : List Byte} {vs : List Word}
    (h : readValues mask js p = some (vs, rest)) : vs.length = (js.filter (fun j => mask.getLsbD j)).length := by
  induction js generalizing p vs with
  | nil => simp only [readValues, Option.some.injEq, Prod.mk.injEq] at h; simp [← h.1]
  | cons j js ih =>
    by_cases hj : mask.getLsbD j = true
    · simp only [readValues, hj, if_true] at h
      split at h
      · simp only [Option.map_eq_some_iff, Prod.mk.injEq] at h
        obtain ⟨⟨ws, r⟩, hr, rfl, rfl⟩ := h
        simp [hj, ih hr]
      · cases h
    · simp only [readValues, hj, Bool.false_eq_true, if_false] at h
      simp [hj, ih h]

/-- The length of a report payload (R76). -/
theorem encodePayload_length (mask : Byte) (vs : List Word) : (encodePayload mask vs).length = 1 + 4 * vs.length := by
  have h : (vs.flatMap bytesBE).length = 4 * vs.length := by
    induction vs with
    | nil => rfl
    | cons v vs ih => simp [ih]; omega
  simp [encodePayload, h]; omega

/-- What a mode byte of CONFIG decodes to is a CONFIG of that line and interval with the decoded mode. -/
theorem decodeConfig_operands (line mode high low : Byte) :
    (decodeConfig line mode high low).configOperands = some (line, decodeMode mode, high, low) := by
  unfold decodeConfig
  split <;> simp_all [Instr.configOperands]

/-- The mode bytes that are none of the six. -/
theorem decodeMode_unrecognized {m : Byte} : decodeMode m = .unrecognized ↔ 6 ≤ m.toNat := by
  revert m; decide

end Sys2Proof
end

