-- ==== Sys2Proof/Laws/State.lean ====
section
/-! SUPPORT. What each operation of the machine does to each field of State: one lemma per field per update. -/

namespace Sys2Proof.Machine

/-! ### writeLatch -/

@[simp] theorem writeLatch_cfg (i : Nat) (v : Word) (s : State) : (writeLatch i v s).cfg = s.cfg := rfl
@[simp] theorem writeLatch_latches (i : Nat) (v : Word) (s : State) : (writeLatch i v s).latches = s.latches.set i v := rfl
@[simp] theorem writeLatch_slots (i : Nat) (v : Word) (s : State) : (writeLatch i v s).slots = s.slots := rfl
@[simp] theorem writeLatch_numSlots (i : Nat) (v : Word) (s : State) : (writeLatch i v s).numSlots = s.numSlots := rfl
@[simp] theorem writeLatch_bindings (i : Nat) (v : Word) (s : State) : (writeLatch i v s).bindings = s.bindings := rfl
@[simp] theorem writeLatch_lineModes (i : Nat) (v : Word) (s : State) : (writeLatch i v s).lineModes = s.lineModes := rfl
@[simp] theorem writeLatch_tick (i : Nat) (v : Word) (s : State) : (writeLatch i v s).tick = s.tick := rfl
@[simp] theorem writeLatch_output (i : Nat) (v : Word) (s : State) : (writeLatch i v s).output = s.output := rfl
@[simp] theorem writeLatch_answers (i : Nat) (v : Word) (s : State) : (writeLatch i v s).answers = s.answers := rfl
@[simp] theorem writeLatch_diags (i : Nat) (v : Word) (s : State) : (writeLatch i v s).diags = s.diags := rfl
@[simp] theorem writeLatch_polls (i : Nat) (v : Word) (s : State) : (writeLatch i v s).polls = s.polls := rfl
@[simp] theorem writeLatch_edges (i : Nat) (v : Word) (s : State) : (writeLatch i v s).edges = s.edges := rfl
@[simp] theorem writeLatch_turns (i : Nat) (v : Word) (s : State) : (writeLatch i v s).turns = s.turns := rfl
@[simp] theorem writeLatch_clock (i : Nat) (v : Word) (s : State) : (writeLatch i v s).clock = s.clock := rfl
@[simp] theorem writeLatch_draws (i : Nat) (v : Word) (s : State) : (writeLatch i v s).draws = s.draws := rfl

/-! ### writeSlot -/

@[simp] theorem writeSlot_cfg (i : Nat) (x : Slot) (s : State) : (writeSlot i x s).cfg = s.cfg := rfl
@[simp] theorem writeSlot_latches (i : Nat) (x : Slot) (s : State) : (writeSlot i x s).latches = s.latches := rfl
@[simp] theorem writeSlot_slots (i : Nat) (x : Slot) (s : State) : (writeSlot i x s).slots = s.slots.set i x := rfl
@[simp] theorem writeSlot_numSlots (i : Nat) (x : Slot) (s : State) : (writeSlot i x s).numSlots = s.numSlots := rfl
@[simp] theorem writeSlot_bindings (i : Nat) (x : Slot) (s : State) : (writeSlot i x s).bindings = s.bindings := rfl
@[simp] theorem writeSlot_lineModes (i : Nat) (x : Slot) (s : State) : (writeSlot i x s).lineModes = s.lineModes := rfl
@[simp] theorem writeSlot_tick (i : Nat) (x : Slot) (s : State) : (writeSlot i x s).tick = s.tick := rfl
@[simp] theorem writeSlot_output (i : Nat) (x : Slot) (s : State) : (writeSlot i x s).output = s.output := rfl
@[simp] theorem writeSlot_answers (i : Nat) (x : Slot) (s : State) : (writeSlot i x s).answers = s.answers := rfl
@[simp] theorem writeSlot_diags (i : Nat) (x : Slot) (s : State) : (writeSlot i x s).diags = s.diags := rfl
@[simp] theorem writeSlot_polls (i : Nat) (x : Slot) (s : State) : (writeSlot i x s).polls = s.polls := rfl
@[simp] theorem writeSlot_edges (i : Nat) (x : Slot) (s : State) : (writeSlot i x s).edges = s.edges := rfl
@[simp] theorem writeSlot_turns (i : Nat) (x : Slot) (s : State) : (writeSlot i x s).turns = s.turns := rfl
@[simp] theorem writeSlot_clock (i : Nat) (x : Slot) (s : State) : (writeSlot i x s).clock = s.clock := rfl
@[simp] theorem writeSlot_draws (i : Nat) (x : Slot) (s : State) : (writeSlot i x s).draws = s.draws := rfl

/-! ### setInputMode -/

@[simp] theorem setInputMode_cfg (l : Byte) (m : InputMode) (s : State) : (setInputMode l m s).cfg = s.cfg := rfl
@[simp] theorem setInputMode_latches (l : Byte) (m : InputMode) (s : State) : (setInputMode l m s).latches = s.latches := rfl
@[simp] theorem setInputMode_slots (l : Byte) (m : InputMode) (s : State) : (setInputMode l m s).slots = s.slots := rfl
@[simp] theorem setInputMode_numSlots (l : Byte) (m : InputMode) (s : State) : (setInputMode l m s).numSlots = s.numSlots := rfl
@[simp] theorem setInputMode_bindings (l : Byte) (m : InputMode) (s : State) : (setInputMode l m s).bindings = s.bindings := rfl
@[simp] theorem setInputMode_lineModes (l : Byte) (m : InputMode) (s : State) : (setInputMode l m s).lineModes = s.lineModes.set l.toNat (some m) l.isLt := rfl
@[simp] theorem setInputMode_tick (l : Byte) (m : InputMode) (s : State) : (setInputMode l m s).tick = s.tick := rfl
@[simp] theorem setInputMode_output (l : Byte) (m : InputMode) (s : State) : (setInputMode l m s).output = s.output := rfl
@[simp] theorem setInputMode_answers (l : Byte) (m : InputMode) (s : State) : (setInputMode l m s).answers = s.answers := rfl
@[simp] theorem setInputMode_diags (l : Byte) (m : InputMode) (s : State) : (setInputMode l m s).diags = s.diags := rfl
@[simp] theorem setInputMode_polls (l : Byte) (m : InputMode) (s : State) : (setInputMode l m s).polls = s.polls := rfl
@[simp] theorem setInputMode_edges (l : Byte) (m : InputMode) (s : State) : (setInputMode l m s).edges = s.edges := rfl
@[simp] theorem setInputMode_turns (l : Byte) (m : InputMode) (s : State) : (setInputMode l m s).turns = s.turns := rfl
@[simp] theorem setInputMode_clock (l : Byte) (m : InputMode) (s : State) : (setInputMode l m s).clock = s.clock := rfl
@[simp] theorem setInputMode_draws (l : Byte) (m : InputMode) (s : State) : (setInputMode l m s).draws = s.draws := rfl

/-! ### writeBinding -/

@[simp] theorem writeBinding_cfg (l : Byte) (b : Option Binding) (s : State) : (writeBinding l b s).cfg = s.cfg := rfl
@[simp] theorem writeBinding_latches (l : Byte) (b : Option Binding) (s : State) : (writeBinding l b s).latches = s.latches := rfl
@[simp] theorem writeBinding_slots (l : Byte) (b : Option Binding) (s : State) : (writeBinding l b s).slots = s.slots := rfl
@[simp] theorem writeBinding_numSlots (l : Byte) (b : Option Binding) (s : State) : (writeBinding l b s).numSlots = s.numSlots := rfl
@[simp] theorem writeBinding_bindings (l : Byte) (b : Option Binding) (s : State) : (writeBinding l b s).bindings = s.bindings.set l.toNat b l.isLt := rfl
@[simp] theorem writeBinding_lineModes (l : Byte) (b : Option Binding) (s : State) : (writeBinding l b s).lineModes = s.lineModes := rfl
@[simp] theorem writeBinding_tick (l : Byte) (b : Option Binding) (s : State) : (writeBinding l b s).tick = s.tick := rfl
@[simp] theorem writeBinding_output (l : Byte) (b : Option Binding) (s : State) : (writeBinding l b s).output = s.output := rfl
@[simp] theorem writeBinding_answers (l : Byte) (b : Option Binding) (s : State) : (writeBinding l b s).answers = s.answers := rfl
@[simp] theorem writeBinding_diags (l : Byte) (b : Option Binding) (s : State) : (writeBinding l b s).diags = s.diags := rfl
@[simp] theorem writeBinding_polls (l : Byte) (b : Option Binding) (s : State) : (writeBinding l b s).polls = s.polls := rfl
@[simp] theorem writeBinding_edges (l : Byte) (b : Option Binding) (s : State) : (writeBinding l b s).edges = s.edges := rfl
@[simp] theorem writeBinding_turns (l : Byte) (b : Option Binding) (s : State) : (writeBinding l b s).turns = s.turns := rfl
@[simp] theorem writeBinding_clock (l : Byte) (b : Option Binding) (s : State) : (writeBinding l b s).clock = s.clock := rfl
@[simp] theorem writeBinding_draws (l : Byte) (b : Option Binding) (s : State) : (writeBinding l b s).draws = s.draws := rfl

/-! ### disarm -/

@[simp] theorem disarm_cfg (l : Byte) (s : State) : (disarm l s).cfg = s.cfg := rfl
@[simp] theorem disarm_latches (l : Byte) (s : State) : (disarm l s).latches = s.latches := rfl
@[simp] theorem disarm_slots (l : Byte) (s : State) : (disarm l s).slots = s.slots := rfl
@[simp] theorem disarm_numSlots (l : Byte) (s : State) : (disarm l s).numSlots = s.numSlots := rfl
@[simp] theorem disarm_bindings (l : Byte) (s : State) : (disarm l s).bindings = s.bindings.set l.toNat none l.isLt := rfl
@[simp] theorem disarm_lineModes (l : Byte) (s : State) : (disarm l s).lineModes = s.lineModes := rfl
@[simp] theorem disarm_tick (l : Byte) (s : State) : (disarm l s).tick = s.tick := rfl
@[simp] theorem disarm_output (l : Byte) (s : State) : (disarm l s).output = s.output := rfl
@[simp] theorem disarm_answers (l : Byte) (s : State) : (disarm l s).answers = s.answers := rfl
@[simp] theorem disarm_diags (l : Byte) (s : State) : (disarm l s).diags = s.diags := rfl
@[simp] theorem disarm_polls (l : Byte) (s : State) : (disarm l s).polls = s.polls := rfl
@[simp] theorem disarm_edges (l : Byte) (s : State) : (disarm l s).edges = s.edges := rfl
@[simp] theorem disarm_turns (l : Byte) (s : State) : (disarm l s).turns = s.turns := rfl
@[simp] theorem disarm_clock (l : Byte) (s : State) : (disarm l s).clock = s.clock := rfl
@[simp] theorem disarm_draws (l : Byte) (s : State) : (disarm l s).draws = s.draws := rfl

/-! ### emit -/

@[simp] theorem emit_cfg (bs : List Byte) (s : State) : (emit bs s).cfg = s.cfg := rfl
@[simp] theorem emit_latches (bs : List Byte) (s : State) : (emit bs s).latches = s.latches := rfl
@[simp] theorem emit_slots (bs : List Byte) (s : State) : (emit bs s).slots = s.slots := rfl
@[simp] theorem emit_numSlots (bs : List Byte) (s : State) : (emit bs s).numSlots = s.numSlots := rfl
@[simp] theorem emit_bindings (bs : List Byte) (s : State) : (emit bs s).bindings = s.bindings := rfl
@[simp] theorem emit_lineModes (bs : List Byte) (s : State) : (emit bs s).lineModes = s.lineModes := rfl
@[simp] theorem emit_tick (bs : List Byte) (s : State) : (emit bs s).tick = s.tick := rfl
@[simp] theorem emit_output (bs : List Byte) (s : State) : (emit bs s).output = s.output ++ bs := rfl
@[simp] theorem emit_answers (bs : List Byte) (s : State) : (emit bs s).answers = s.answers := rfl
@[simp] theorem emit_diags (bs : List Byte) (s : State) : (emit bs s).diags = s.diags := rfl
@[simp] theorem emit_polls (bs : List Byte) (s : State) : (emit bs s).polls = s.polls := rfl
@[simp] theorem emit_edges (bs : List Byte) (s : State) : (emit bs s).edges = s.edges := rfl
@[simp] theorem emit_turns (bs : List Byte) (s : State) : (emit bs s).turns = s.turns := rfl
@[simp] theorem emit_clock (bs : List Byte) (s : State) : (emit bs s).clock = s.clock := rfl
@[simp] theorem emit_draws (bs : List Byte) (s : State) : (emit bs s).draws = s.draws := rfl

/-! ### finish -/

@[simp] theorem finish_cfg (o : OpOutcome) (s : State) : (finish o s).cfg = s.cfg := rfl
@[simp] theorem finish_latches (o : OpOutcome) (s : State) : (finish o s).latches = s.latches := rfl
@[simp] theorem finish_slots (o : OpOutcome) (s : State) : (finish o s).slots = s.slots := rfl
@[simp] theorem finish_numSlots (o : OpOutcome) (s : State) : (finish o s).numSlots = s.numSlots := rfl
@[simp] theorem finish_bindings (o : OpOutcome) (s : State) : (finish o s).bindings = s.bindings := rfl
@[simp] theorem finish_lineModes (o : OpOutcome) (s : State) : (finish o s).lineModes = s.lineModes := rfl
@[simp] theorem finish_tick (o : OpOutcome) (s : State) : (finish o s).tick = s.tick := rfl
@[simp] theorem finish_output (o : OpOutcome) (s : State) : (finish o s).output = s.output := rfl
@[simp] theorem finish_answers (o : OpOutcome) (s : State) : (finish o s).answers = s.answers ++ [outcomeAnswer o] := rfl
@[simp] theorem finish_diags (o : OpOutcome) (s : State) : (finish o s).diags = s.diags := rfl
@[simp] theorem finish_polls (o : OpOutcome) (s : State) : (finish o s).polls = s.polls := rfl
@[simp] theorem finish_edges (o : OpOutcome) (s : State) : (finish o s).edges = s.edges := rfl
@[simp] theorem finish_turns (o : OpOutcome) (s : State) : (finish o s).turns = s.turns := rfl
@[simp] theorem finish_clock (o : OpOutcome) (s : State) : (finish o s).clock = s.clock := rfl
@[simp] theorem finish_draws (o : OpOutcome) (s : State) : (finish o s).draws = s.draws := rfl

/-! ### raiseDiag -/

@[simp] theorem raiseDiag_cfg (e : Diag) (s : State) : (raiseDiag e s).cfg = s.cfg := rfl
@[simp] theorem raiseDiag_latches (e : Diag) (s : State) : (raiseDiag e s).latches = s.latches := rfl
@[simp] theorem raiseDiag_slots (e : Diag) (s : State) : (raiseDiag e s).slots = s.slots := rfl
@[simp] theorem raiseDiag_numSlots (e : Diag) (s : State) : (raiseDiag e s).numSlots = s.numSlots := rfl
@[simp] theorem raiseDiag_bindings (e : Diag) (s : State) : (raiseDiag e s).bindings = s.bindings := rfl
@[simp] theorem raiseDiag_lineModes (e : Diag) (s : State) : (raiseDiag e s).lineModes = s.lineModes := rfl
@[simp] theorem raiseDiag_tick (e : Diag) (s : State) : (raiseDiag e s).tick = s.tick := rfl
@[simp] theorem raiseDiag_output (e : Diag) (s : State) : (raiseDiag e s).output = s.output := rfl
@[simp] theorem raiseDiag_answers (e : Diag) (s : State) : (raiseDiag e s).answers = s.answers := rfl
@[simp] theorem raiseDiag_diags (e : Diag) (s : State) : (raiseDiag e s).diags = s.diags ++ [e] := rfl
@[simp] theorem raiseDiag_polls (e : Diag) (s : State) : (raiseDiag e s).polls = s.polls := rfl
@[simp] theorem raiseDiag_edges (e : Diag) (s : State) : (raiseDiag e s).edges = s.edges := rfl
@[simp] theorem raiseDiag_turns (e : Diag) (s : State) : (raiseDiag e s).turns = s.turns := rfl
@[simp] theorem raiseDiag_clock (e : Diag) (s : State) : (raiseDiag e s).clock = s.clock := rfl
@[simp] theorem raiseDiag_draws (e : Diag) (s : State) : (raiseDiag e s).draws = s.draws := rfl

/-! ### incrementLatch -/

@[simp] theorem incrementLatch_cfg (i : Nat) (s : State) : (incrementLatch i s).cfg = s.cfg := rfl
@[simp] theorem incrementLatch_latches (i : Nat) (s : State) : (incrementLatch i s).latches = s.latches.set i (latchAt s i + 1#32) := rfl
@[simp] theorem incrementLatch_slots (i : Nat) (s : State) : (incrementLatch i s).slots = s.slots := rfl
@[simp] theorem incrementLatch_numSlots (i : Nat) (s : State) : (incrementLatch i s).numSlots = s.numSlots := rfl
@[simp] theorem incrementLatch_bindings (i : Nat) (s : State) : (incrementLatch i s).bindings = s.bindings := rfl
@[simp] theorem incrementLatch_lineModes (i : Nat) (s : State) : (incrementLatch i s).lineModes = s.lineModes := rfl
@[simp] theorem incrementLatch_tick (i : Nat) (s : State) : (incrementLatch i s).tick = s.tick := rfl
@[simp] theorem incrementLatch_output (i : Nat) (s : State) : (incrementLatch i s).output = s.output := rfl
@[simp] theorem incrementLatch_answers (i : Nat) (s : State) : (incrementLatch i s).answers = s.answers := rfl
@[simp] theorem incrementLatch_diags (i : Nat) (s : State) : (incrementLatch i s).diags = s.diags := rfl
@[simp] theorem incrementLatch_polls (i : Nat) (s : State) : (incrementLatch i s).polls = s.polls := rfl
@[simp] theorem incrementLatch_edges (i : Nat) (s : State) : (incrementLatch i s).edges = s.edges := rfl
@[simp] theorem incrementLatch_turns (i : Nat) (s : State) : (incrementLatch i s).turns = s.turns := rfl
@[simp] theorem incrementLatch_clock (i : Nat) (s : State) : (incrementLatch i s).clock = s.clock := rfl
@[simp] theorem incrementLatch_draws (i : Nat) (s : State) : (incrementLatch i s).draws = s.draws := rfl

/-! ### allocate -/

@[simp] theorem allocate_cfg (i : Nat) (l : Byte) (m : TriggerMode) (h : Half) (s : State) : (allocate i l m h s).cfg = s.cfg := rfl
@[simp] theorem allocate_latches (i : Nat) (l : Byte) (m : TriggerMode) (h : Half) (s : State) : (allocate i l m h s).latches = s.latches.set i 0#32 := rfl
@[simp] theorem allocate_slots (i : Nat) (l : Byte) (m : TriggerMode) (h : Half) (s : State) : (allocate i l m h s).slots = s.slots.set i { slotAt s i with line := l, mode := m, interval := h, lastValue := 0#32 } := rfl
@[simp] theorem allocate_numSlots (i : Nat) (l : Byte) (m : TriggerMode) (h : Half) (s : State) : (allocate i l m h s).numSlots = s.numSlots := rfl
@[simp] theorem allocate_bindings (i : Nat) (l : Byte) (m : TriggerMode) (h : Half) (s : State) : (allocate i l m h s).bindings = s.bindings := rfl
@[simp] theorem allocate_lineModes (i : Nat) (l : Byte) (m : TriggerMode) (h : Half) (s : State) : (allocate i l m h s).lineModes = s.lineModes := rfl
@[simp] theorem allocate_tick (i : Nat) (l : Byte) (m : TriggerMode) (h : Half) (s : State) : (allocate i l m h s).tick = s.tick := rfl
@[simp] theorem allocate_output (i : Nat) (l : Byte) (m : TriggerMode) (h : Half) (s : State) : (allocate i l m h s).output = s.output := rfl
@[simp] theorem allocate_answers (i : Nat) (l : Byte) (m : TriggerMode) (h : Half) (s : State) : (allocate i l m h s).answers = s.answers := rfl
@[simp] theorem allocate_diags (i : Nat) (l : Byte) (m : TriggerMode) (h : Half) (s : State) : (allocate i l m h s).diags = s.diags := rfl
@[simp] theorem allocate_polls (i : Nat) (l : Byte) (m : TriggerMode) (h : Half) (s : State) : (allocate i l m h s).polls = s.polls := rfl
@[simp] theorem allocate_edges (i : Nat) (l : Byte) (m : TriggerMode) (h : Half) (s : State) : (allocate i l m h s).edges = s.edges := rfl
@[simp] theorem allocate_turns (i : Nat) (l : Byte) (m : TriggerMode) (h : Half) (s : State) : (allocate i l m h s).turns = s.turns := rfl
@[simp] theorem allocate_clock (i : Nat) (l : Byte) (m : TriggerMode) (h : Half) (s : State) : (allocate i l m h s).clock = s.clock := rfl
@[simp] theorem allocate_draws (i : Nat) (l : Byte) (m : TriggerMode) (h : Half) (s : State) : (allocate i l m h s).draws = s.draws := rfl

/-! ### resync -/

@[simp] theorem resync_cfg (n : Nat) (t : Word) (s : State) : (resync n t s).cfg = s.cfg := rfl
@[simp] theorem resync_latches (n : Nat) (t : Word) (s : State) : (resync n t s).latches = s.latches := rfl
@[simp] theorem resync_slots (n : Nat) (t : Word) (s : State) : (resync n t s).slots = (s.slots.take n).map (fun x => { x with lastTime := t }) ++ s.slots.drop n := rfl
@[simp] theorem resync_numSlots (n : Nat) (t : Word) (s : State) : (resync n t s).numSlots = s.numSlots := rfl
@[simp] theorem resync_bindings (n : Nat) (t : Word) (s : State) : (resync n t s).bindings = s.bindings := rfl
@[simp] theorem resync_lineModes (n : Nat) (t : Word) (s : State) : (resync n t s).lineModes = s.lineModes := rfl
@[simp] theorem resync_tick (n : Nat) (t : Word) (s : State) : (resync n t s).tick = s.tick := rfl
@[simp] theorem resync_output (n : Nat) (t : Word) (s : State) : (resync n t s).output = s.output := rfl
@[simp] theorem resync_answers (n : Nat) (t : Word) (s : State) : (resync n t s).answers = s.answers := rfl
@[simp] theorem resync_diags (n : Nat) (t : Word) (s : State) : (resync n t s).diags = s.diags := rfl
@[simp] theorem resync_polls (n : Nat) (t : Word) (s : State) : (resync n t s).polls = s.polls := rfl
@[simp] theorem resync_edges (n : Nat) (t : Word) (s : State) : (resync n t s).edges = s.edges := rfl
@[simp] theorem resync_turns (n : Nat) (t : Word) (s : State) : (resync n t s).turns = s.turns := rfl
@[simp] theorem resync_clock (n : Nat) (t : Word) (s : State) : (resync n t s).clock = s.clock := rfl
@[simp] theorem resync_draws (n : Nat) (t : Word) (s : State) : (resync n t s).draws = s.draws := rfl

/-! ### drainSlot -/

@[simp] theorem drainSlot_cfg (i : Nat) (s : State) : (drainSlot i s).cfg = s.cfg := rfl
@[simp] theorem drainSlot_latches (i : Nat) (s : State) : (drainSlot i s).latches = s.latches.set i 0#32 := rfl
@[simp] theorem drainSlot_slots (i : Nat) (s : State) : (drainSlot i s).slots = s.slots.set i { slotAt s i with lastTime := (slotAt s i).lastTime + (slotAt s i).interval.setWidth 32, lastValue := latchAt s i } := rfl
@[simp] theorem drainSlot_numSlots (i : Nat) (s : State) : (drainSlot i s).numSlots = s.numSlots := rfl
@[simp] theorem drainSlot_bindings (i : Nat) (s : State) : (drainSlot i s).bindings = s.bindings := rfl
@[simp] theorem drainSlot_lineModes (i : Nat) (s : State) : (drainSlot i s).lineModes = s.lineModes := rfl
@[simp] theorem drainSlot_tick (i : Nat) (s : State) : (drainSlot i s).tick = s.tick := rfl
@[simp] theorem drainSlot_output (i : Nat) (s : State) : (drainSlot i s).output = s.output ++ bytesBE (latchAt s i) := rfl
@[simp] theorem drainSlot_answers (i : Nat) (s : State) : (drainSlot i s).answers = s.answers := rfl
@[simp] theorem drainSlot_diags (i : Nat) (s : State) : (drainSlot i s).diags = s.diags := rfl
@[simp] theorem drainSlot_polls (i : Nat) (s : State) : (drainSlot i s).polls = s.polls := rfl
@[simp] theorem drainSlot_edges (i : Nat) (s : State) : (drainSlot i s).edges = s.edges := rfl
@[simp] theorem drainSlot_turns (i : Nat) (s : State) : (drainSlot i s).turns = s.turns := rfl
@[simp] theorem drainSlot_clock (i : Nat) (s : State) : (drainSlot i s).clock = s.clock := rfl
@[simp] theorem drainSlot_draws (i : Nat) (s : State) : (drainSlot i s).draws = s.draws := rfl

/-! ### closeFrame -/

@[simp] theorem closeFrame_cfg (s : State) : (closeFrame s).cfg = s.cfg := rfl
@[simp] theorem closeFrame_latches (s : State) : (closeFrame s).latches = s.latches := rfl
@[simp] theorem closeFrame_slots (s : State) : (closeFrame s).slots = s.slots := rfl
@[simp] theorem closeFrame_numSlots (s : State) : (closeFrame s).numSlots = s.numSlots := rfl
@[simp] theorem closeFrame_bindings (s : State) : (closeFrame s).bindings = s.bindings := rfl
@[simp] theorem closeFrame_lineModes (s : State) : (closeFrame s).lineModes = s.lineModes := rfl
@[simp] theorem closeFrame_tick (s : State) : (closeFrame s).tick = .idle := rfl
@[simp] theorem closeFrame_output (s : State) : (closeFrame s).output = s.output ++ [s.cfg.frameEnd] := rfl
@[simp] theorem closeFrame_answers (s : State) : (closeFrame s).answers = s.answers := rfl
@[simp] theorem closeFrame_diags (s : State) : (closeFrame s).diags = s.diags := rfl
@[simp] theorem closeFrame_polls (s : State) : (closeFrame s).polls = s.polls := rfl
@[simp] theorem closeFrame_edges (s : State) : (closeFrame s).edges = s.edges := rfl
@[simp] theorem closeFrame_turns (s : State) : (closeFrame s).turns = s.turns := rfl
@[simp] theorem closeFrame_clock (s : State) : (closeFrame s).clock = s.clock := rfl
@[simp] theorem closeFrame_draws (s : State) : (closeFrame s).draws = s.draws := rfl

/-! ### setNumSlots -/

@[simp] theorem setNumSlots_cfg (n : Nat) (s : State) : (setNumSlots n s).cfg = s.cfg := rfl
@[simp] theorem setNumSlots_latches (n : Nat) (s : State) : (setNumSlots n s).latches = s.latches := rfl
@[simp] theorem setNumSlots_slots (n : Nat) (s : State) : (setNumSlots n s).slots = s.slots := rfl
@[simp] theorem setNumSlots_numSlots (n : Nat) (s : State) : (setNumSlots n s).numSlots = n := rfl
@[simp] theorem setNumSlots_bindings (n : Nat) (s : State) : (setNumSlots n s).bindings = s.bindings := rfl
@[simp] theorem setNumSlots_lineModes (n : Nat) (s : State) : (setNumSlots n s).lineModes = s.lineModes := rfl
@[simp] theorem setNumSlots_tick (n : Nat) (s : State) : (setNumSlots n s).tick = s.tick := rfl
@[simp] theorem setNumSlots_output (n : Nat) (s : State) : (setNumSlots n s).output = s.output := rfl
@[simp] theorem setNumSlots_answers (n : Nat) (s : State) : (setNumSlots n s).answers = s.answers := rfl
@[simp] theorem setNumSlots_diags (n : Nat) (s : State) : (setNumSlots n s).diags = s.diags := rfl
@[simp] theorem setNumSlots_polls (n : Nat) (s : State) : (setNumSlots n s).polls = s.polls := rfl
@[simp] theorem setNumSlots_edges (n : Nat) (s : State) : (setNumSlots n s).edges = s.edges := rfl
@[simp] theorem setNumSlots_turns (n : Nat) (s : State) : (setNumSlots n s).turns = s.turns := rfl
@[simp] theorem setNumSlots_clock (n : Nat) (s : State) : (setNumSlots n s).clock = s.clock := rfl
@[simp] theorem setNumSlots_draws (n : Nat) (s : State) : (setNumSlots n s).draws = s.draws := rfl

/-! ### setTick -/

@[simp] theorem setTick_cfg (p : TickPhase) (s : State) : (setTick p s).cfg = s.cfg := rfl
@[simp] theorem setTick_latches (p : TickPhase) (s : State) : (setTick p s).latches = s.latches := rfl
@[simp] theorem setTick_slots (p : TickPhase) (s : State) : (setTick p s).slots = s.slots := rfl
@[simp] theorem setTick_numSlots (p : TickPhase) (s : State) : (setTick p s).numSlots = s.numSlots := rfl
@[simp] theorem setTick_bindings (p : TickPhase) (s : State) : (setTick p s).bindings = s.bindings := rfl
@[simp] theorem setTick_lineModes (p : TickPhase) (s : State) : (setTick p s).lineModes = s.lineModes := rfl
@[simp] theorem setTick_tick (p : TickPhase) (s : State) : (setTick p s).tick = p := rfl
@[simp] theorem setTick_output (p : TickPhase) (s : State) : (setTick p s).output = s.output := rfl
@[simp] theorem setTick_answers (p : TickPhase) (s : State) : (setTick p s).answers = s.answers := rfl
@[simp] theorem setTick_diags (p : TickPhase) (s : State) : (setTick p s).diags = s.diags := rfl
@[simp] theorem setTick_polls (p : TickPhase) (s : State) : (setTick p s).polls = s.polls := rfl
@[simp] theorem setTick_edges (p : TickPhase) (s : State) : (setTick p s).edges = s.edges := rfl
@[simp] theorem setTick_turns (p : TickPhase) (s : State) : (setTick p s).turns = s.turns := rfl
@[simp] theorem setTick_clock (p : TickPhase) (s : State) : (setTick p s).clock = s.clock := rfl
@[simp] theorem setTick_draws (p : TickPhase) (s : State) : (setTick p s).draws = s.draws := rfl

/-! ### setPolls -/

@[simp] theorem setPolls_cfg (rs : List PollRequest) (s : State) : (setPolls rs s).cfg = s.cfg := rfl
@[simp] theorem setPolls_latches (rs : List PollRequest) (s : State) : (setPolls rs s).latches = s.latches := rfl
@[simp] theorem setPolls_slots (rs : List PollRequest) (s : State) : (setPolls rs s).slots = s.slots := rfl
@[simp] theorem setPolls_numSlots (rs : List PollRequest) (s : State) : (setPolls rs s).numSlots = s.numSlots := rfl
@[simp] theorem setPolls_bindings (rs : List PollRequest) (s : State) : (setPolls rs s).bindings = s.bindings := rfl
@[simp] theorem setPolls_lineModes (rs : List PollRequest) (s : State) : (setPolls rs s).lineModes = s.lineModes := rfl
@[simp] theorem setPolls_tick (rs : List PollRequest) (s : State) : (setPolls rs s).tick = s.tick := rfl
@[simp] theorem setPolls_output (rs : List PollRequest) (s : State) : (setPolls rs s).output = s.output := rfl
@[simp] theorem setPolls_answers (rs : List PollRequest) (s : State) : (setPolls rs s).answers = s.answers := rfl
@[simp] theorem setPolls_diags (rs : List PollRequest) (s : State) : (setPolls rs s).diags = s.diags := rfl
@[simp] theorem setPolls_polls (rs : List PollRequest) (s : State) : (setPolls rs s).polls = rs := rfl
@[simp] theorem setPolls_edges (rs : List PollRequest) (s : State) : (setPolls rs s).edges = s.edges := rfl
@[simp] theorem setPolls_turns (rs : List PollRequest) (s : State) : (setPolls rs s).turns = s.turns := rfl
@[simp] theorem setPolls_clock (rs : List PollRequest) (s : State) : (setPolls rs s).clock = s.clock := rfl
@[simp] theorem setPolls_draws (rs : List PollRequest) (s : State) : (setPolls rs s).draws = s.draws := rfl

/-! ### setEdges -/

@[simp] theorem setEdges_cfg (es : List EdgeEvent) (s : State) : (setEdges es s).cfg = s.cfg := rfl
@[simp] theorem setEdges_latches (es : List EdgeEvent) (s : State) : (setEdges es s).latches = s.latches := rfl
@[simp] theorem setEdges_slots (es : List EdgeEvent) (s : State) : (setEdges es s).slots = s.slots := rfl
@[simp] theorem setEdges_numSlots (es : List EdgeEvent) (s : State) : (setEdges es s).numSlots = s.numSlots := rfl
@[simp] theorem setEdges_bindings (es : List EdgeEvent) (s : State) : (setEdges es s).bindings = s.bindings := rfl
@[simp] theorem setEdges_lineModes (es : List EdgeEvent) (s : State) : (setEdges es s).lineModes = s.lineModes := rfl
@[simp] theorem setEdges_tick (es : List EdgeEvent) (s : State) : (setEdges es s).tick = s.tick := rfl
@[simp] theorem setEdges_output (es : List EdgeEvent) (s : State) : (setEdges es s).output = s.output := rfl
@[simp] theorem setEdges_answers (es : List EdgeEvent) (s : State) : (setEdges es s).answers = s.answers := rfl
@[simp] theorem setEdges_diags (es : List EdgeEvent) (s : State) : (setEdges es s).diags = s.diags := rfl
@[simp] theorem setEdges_polls (es : List EdgeEvent) (s : State) : (setEdges es s).polls = s.polls := rfl
@[simp] theorem setEdges_edges (es : List EdgeEvent) (s : State) : (setEdges es s).edges = es := rfl
@[simp] theorem setEdges_turns (es : List EdgeEvent) (s : State) : (setEdges es s).turns = s.turns := rfl
@[simp] theorem setEdges_clock (es : List EdgeEvent) (s : State) : (setEdges es s).clock = s.clock := rfl
@[simp] theorem setEdges_draws (es : List EdgeEvent) (s : State) : (setEdges es s).draws = s.draws := rfl

/-! ### setTurns -/

@[simp] theorem setTurns_cfg (ts : List Turn) (s : State) : (setTurns ts s).cfg = s.cfg := rfl
@[simp] theorem setTurns_latches (ts : List Turn) (s : State) : (setTurns ts s).latches = s.latches := rfl
@[simp] theorem setTurns_slots (ts : List Turn) (s : State) : (setTurns ts s).slots = s.slots := rfl
@[simp] theorem setTurns_numSlots (ts : List Turn) (s : State) : (setTurns ts s).numSlots = s.numSlots := rfl
@[simp] theorem setTurns_bindings (ts : List Turn) (s : State) : (setTurns ts s).bindings = s.bindings := rfl
@[simp] theorem setTurns_lineModes (ts : List Turn) (s : State) : (setTurns ts s).lineModes = s.lineModes := rfl
@[simp] theorem setTurns_tick (ts : List Turn) (s : State) : (setTurns ts s).tick = s.tick := rfl
@[simp] theorem setTurns_output (ts : List Turn) (s : State) : (setTurns ts s).output = s.output := rfl
@[simp] theorem setTurns_answers (ts : List Turn) (s : State) : (setTurns ts s).answers = s.answers := rfl
@[simp] theorem setTurns_diags (ts : List Turn) (s : State) : (setTurns ts s).diags = s.diags := rfl
@[simp] theorem setTurns_polls (ts : List Turn) (s : State) : (setTurns ts s).polls = s.polls := rfl
@[simp] theorem setTurns_edges (ts : List Turn) (s : State) : (setTurns ts s).edges = s.edges := rfl
@[simp] theorem setTurns_turns (ts : List Turn) (s : State) : (setTurns ts s).turns = ts := rfl
@[simp] theorem setTurns_clock (ts : List Turn) (s : State) : (setTurns ts s).clock = s.clock := rfl
@[simp] theorem setTurns_draws (ts : List Turn) (s : State) : (setTurns ts s).draws = s.draws := rfl

/-! ### setClock -/

@[simp] theorem setClock_cfg (ts : List Word) (s : State) : (setClock ts s).cfg = s.cfg := rfl
@[simp] theorem setClock_latches (ts : List Word) (s : State) : (setClock ts s).latches = s.latches := rfl
@[simp] theorem setClock_slots (ts : List Word) (s : State) : (setClock ts s).slots = s.slots := rfl
@[simp] theorem setClock_numSlots (ts : List Word) (s : State) : (setClock ts s).numSlots = s.numSlots := rfl
@[simp] theorem setClock_bindings (ts : List Word) (s : State) : (setClock ts s).bindings = s.bindings := rfl
@[simp] theorem setClock_lineModes (ts : List Word) (s : State) : (setClock ts s).lineModes = s.lineModes := rfl
@[simp] theorem setClock_tick (ts : List Word) (s : State) : (setClock ts s).tick = s.tick := rfl
@[simp] theorem setClock_output (ts : List Word) (s : State) : (setClock ts s).output = s.output := rfl
@[simp] theorem setClock_answers (ts : List Word) (s : State) : (setClock ts s).answers = s.answers := rfl
@[simp] theorem setClock_diags (ts : List Word) (s : State) : (setClock ts s).diags = s.diags := rfl
@[simp] theorem setClock_polls (ts : List Word) (s : State) : (setClock ts s).polls = s.polls := rfl
@[simp] theorem setClock_edges (ts : List Word) (s : State) : (setClock ts s).edges = s.edges := rfl
@[simp] theorem setClock_turns (ts : List Word) (s : State) : (setClock ts s).turns = s.turns := rfl
@[simp] theorem setClock_clock (ts : List Word) (s : State) : (setClock ts s).clock = ts := rfl
@[simp] theorem setClock_draws (ts : List Word) (s : State) : (setClock ts s).draws = s.draws := rfl

/-! ### countDraw -/

@[simp] theorem countDraw_cfg (s : State) : (countDraw s).cfg = s.cfg := rfl
@[simp] theorem countDraw_latches (s : State) : (countDraw s).latches = s.latches := rfl
@[simp] theorem countDraw_slots (s : State) : (countDraw s).slots = s.slots := rfl
@[simp] theorem countDraw_numSlots (s : State) : (countDraw s).numSlots = s.numSlots := rfl
@[simp] theorem countDraw_bindings (s : State) : (countDraw s).bindings = s.bindings := rfl
@[simp] theorem countDraw_lineModes (s : State) : (countDraw s).lineModes = s.lineModes := rfl
@[simp] theorem countDraw_tick (s : State) : (countDraw s).tick = s.tick := rfl
@[simp] theorem countDraw_output (s : State) : (countDraw s).output = s.output := rfl
@[simp] theorem countDraw_answers (s : State) : (countDraw s).answers = s.answers := rfl
@[simp] theorem countDraw_diags (s : State) : (countDraw s).diags = s.diags := rfl
@[simp] theorem countDraw_polls (s : State) : (countDraw s).polls = s.polls := rfl
@[simp] theorem countDraw_edges (s : State) : (countDraw s).edges = s.edges := rfl
@[simp] theorem countDraw_turns (s : State) : (countDraw s).turns = s.turns := rfl
@[simp] theorem countDraw_clock (s : State) : (countDraw s).clock = s.clock := rfl
@[simp] theorem countDraw_draws (s : State) : (countDraw s).draws = s.draws + 1 := rfl

/-! ### afterSample -/

@[simp] theorem afterSample_cfg (s : State) : (afterSample s).cfg = s.cfg := by unfold afterSample; split <;> rfl
@[simp] theorem afterSample_latches (s : State) : (afterSample s).latches = s.latches := by unfold afterSample; split <;> rfl
@[simp] theorem afterSample_slots (s : State) : (afterSample s).slots = s.slots := by unfold afterSample; split <;> rfl
@[simp] theorem afterSample_numSlots (s : State) : (afterSample s).numSlots = s.numSlots := by unfold afterSample; split <;> rfl
@[simp] theorem afterSample_bindings (s : State) : (afterSample s).bindings = s.bindings := by unfold afterSample; split <;> rfl
@[simp] theorem afterSample_lineModes (s : State) : (afterSample s).lineModes = s.lineModes := by unfold afterSample; split <;> rfl
@[simp] theorem afterSample_tick (s : State) : (afterSample s).tick = s.tick := by unfold afterSample; split <;> rfl
@[simp] theorem afterSample_output (s : State) : (afterSample s).output = s.output := by unfold afterSample; split <;> rfl
@[simp] theorem afterSample_answers (s : State) : (afterSample s).answers = s.answers := by unfold afterSample; split <;> rfl
@[simp] theorem afterSample_diags (s : State) : (afterSample s).diags = s.diags := by unfold afterSample; split <;> rfl
@[simp] theorem afterSample_polls (s : State) : (afterSample s).polls = s.polls := by unfold afterSample; split <;> rfl
@[simp] theorem afterSample_edges (s : State) : (afterSample s).edges = s.edges := by unfold afterSample; split <;> rfl
@[simp] theorem afterSample_turns (s : State) : (afterSample s).turns = s.turns := by unfold afterSample; split <;> rfl

/-- A sample uses up the first listed reading, or counts a draw where none is listed, and does nothing else. -/
theorem afterSample_eq (s : State) : afterSample s = { s with clock := s.clock.tail, draws := drawsAfterSample s } := by
  unfold afterSample drawsAfterSample
  split <;> rename_i h <;> simp [h, setClock, countDraw]

@[simp] theorem afterSample_clock (s : State) : (afterSample s).clock = s.clock.tail := by rw [afterSample_eq]
@[simp] theorem afterSample_draws (s : State) : (afterSample s).draws = drawsAfterSample s := by rw [afterSample_eq]

/-! ### activate -/

@[simp] theorem activate_cfg (i : Nat) (s : State) : (activate i s).cfg = s.cfg := by simp [activate]
@[simp] theorem activate_latches (i : Nat) (s : State) : (activate i s).latches = s.latches := by simp [activate]
@[simp] theorem activate_slots (i : Nat) (s : State) : (activate i s).slots =
    (s.slots.take (i + 1)).map (fun x => { x with lastTime := clockReading s }) ++ s.slots.drop (i + 1) := by simp [activate]
@[simp] theorem activate_numSlots (i : Nat) (s : State) : (activate i s).numSlots = i + 1 := by simp [activate]
@[simp] theorem activate_bindings (i : Nat) (s : State) : (activate i s).bindings = s.bindings := by simp [activate]
@[simp] theorem activate_lineModes (i : Nat) (s : State) : (activate i s).lineModes = s.lineModes := by simp [activate]
@[simp] theorem activate_tick (i : Nat) (s : State) : (activate i s).tick = s.tick := by simp [activate]
@[simp] theorem activate_output (i : Nat) (s : State) : (activate i s).output = s.output := by simp [activate]
@[simp] theorem activate_answers (i : Nat) (s : State) : (activate i s).answers = s.answers := by simp [activate]
@[simp] theorem activate_diags (i : Nat) (s : State) : (activate i s).diags = s.diags := by simp [activate]
@[simp] theorem activate_polls (i : Nat) (s : State) : (activate i s).polls = s.polls := by simp [activate]
@[simp] theorem activate_edges (i : Nat) (s : State) : (activate i s).edges = s.edges := by simp [activate]
@[simp] theorem activate_turns (i : Nat) (s : State) : (activate i s).turns = s.turns := by simp [activate]
@[simp] theorem activate_clock (i : Nat) (s : State) : (activate i s).clock = (afterSample s).clock := by simp [activate]
@[simp] theorem activate_draws (i : Nat) (s : State) : (activate i s).draws = (afterSample s).draws := by simp [activate]

/-! ### disarmAll -/

@[simp] theorem disarmAll_cfg (ls : List Byte) (s : State) : (disarmAll ls s).cfg = s.cfg := by
  induction ls generalizing s with
  | nil => rfl
  | cons l ls ih => exact (ih (disarm l s)).trans (by simp)
@[simp] theorem disarmAll_latches (ls : List Byte) (s : State) : (disarmAll ls s).latches = s.latches := by
  induction ls generalizing s with
  | nil => rfl
  | cons l ls ih => exact (ih (disarm l s)).trans (by simp)
@[simp] theorem disarmAll_slots (ls : List Byte) (s : State) : (disarmAll ls s).slots = s.slots := by
  induction ls generalizing s with
  | nil => rfl
  | cons l ls ih => exact (ih (disarm l s)).trans (by simp)
@[simp] theorem disarmAll_numSlots (ls : List Byte) (s : State) : (disarmAll ls s).numSlots = s.numSlots := by
  induction ls generalizing s with
  | nil => rfl
  | cons l ls ih => exact (ih (disarm l s)).trans (by simp)
@[simp] theorem disarmAll_lineModes (ls : List Byte) (s : State) : (disarmAll ls s).lineModes = s.lineModes := by
  induction ls generalizing s with
  | nil => rfl
  | cons l ls ih => exact (ih (disarm l s)).trans (by simp)
@[simp] theorem disarmAll_tick (ls : List Byte) (s : State) : (disarmAll ls s).tick = s.tick := by
  induction ls generalizing s with
  | nil => rfl
  | cons l ls ih => exact (ih (disarm l s)).trans (by simp)
@[simp] theorem disarmAll_output (ls : List Byte) (s : State) : (disarmAll ls s).output = s.output := by
  induction ls generalizing s with
  | nil => rfl
  | cons l ls ih => exact (ih (disarm l s)).trans (by simp)
@[simp] theorem disarmAll_answers (ls : List Byte) (s : State) : (disarmAll ls s).answers = s.answers := by
  induction ls generalizing s with
  | nil => rfl
  | cons l ls ih => exact (ih (disarm l s)).trans (by simp)
@[simp] theorem disarmAll_diags (ls : List Byte) (s : State) : (disarmAll ls s).diags = s.diags := by
  induction ls generalizing s with
  | nil => rfl
  | cons l ls ih => exact (ih (disarm l s)).trans (by simp)
@[simp] theorem disarmAll_polls (ls : List Byte) (s : State) : (disarmAll ls s).polls = s.polls := by
  induction ls generalizing s with
  | nil => rfl
  | cons l ls ih => exact (ih (disarm l s)).trans (by simp)
@[simp] theorem disarmAll_edges (ls : List Byte) (s : State) : (disarmAll ls s).edges = s.edges := by
  induction ls generalizing s with
  | nil => rfl
  | cons l ls ih => exact (ih (disarm l s)).trans (by simp)
@[simp] theorem disarmAll_turns (ls : List Byte) (s : State) : (disarmAll ls s).turns = s.turns := by
  induction ls generalizing s with
  | nil => rfl
  | cons l ls ih => exact (ih (disarm l s)).trans (by simp)
@[simp] theorem disarmAll_clock (ls : List Byte) (s : State) : (disarmAll ls s).clock = s.clock := by
  induction ls generalizing s with
  | nil => rfl
  | cons l ls ih => exact (ih (disarm l s)).trans (by simp)
@[simp] theorem disarmAll_draws (ls : List Byte) (s : State) : (disarmAll ls s).draws = s.draws := by
  induction ls generalizing s with
  | nil => rfl
  | cons l ls ih => exact (ih (disarm l s)).trans (by simp)

end Sys2Proof.Machine
end

