-- ==== Sys2Proof/Laws/Reads.lean ====
section
/-! SUPPORT. Each read of the state through each operation that does not write what it reads. -/

namespace Sys2Proof.Machine

@[simp] theorem slotAt_writeLatch (i : Nat) (v : Word) (s : State) (j : Nat) : slotAt (writeLatch i v s) j = slotAt s j := rfl
@[simp] theorem bindingAt_writeLatch (i : Nat) (v : Word) (s : State) (a : Byte) : bindingAt (writeLatch i v s) a = bindingAt s a := rfl
@[simp] theorem lineModeAt_writeLatch (i : Nat) (v : Word) (s : State) (a : Byte) : lineModeAt (writeLatch i v s) a = lineModeAt s a := rfl
@[simp] theorem countedSlot_writeLatch (i : Nat) (v : Word) (s : State) (a : Byte) (d : Direction) : countedSlot (writeLatch i v s) a d = countedSlot s a d := rfl
@[simp] theorem clockReading_writeLatch (i : Nat) (v : Word) (s : State) : clockReading (writeLatch i v s) = clockReading s := rfl

@[simp] theorem latchAt_writeSlot (i : Nat) (x : Slot) (s : State) (j : Nat) : latchAt (writeSlot i x s) j = latchAt s j := rfl
@[simp] theorem bindingAt_writeSlot (i : Nat) (x : Slot) (s : State) (a : Byte) : bindingAt (writeSlot i x s) a = bindingAt s a := rfl
@[simp] theorem lineModeAt_writeSlot (i : Nat) (x : Slot) (s : State) (a : Byte) : lineModeAt (writeSlot i x s) a = lineModeAt s a := rfl
@[simp] theorem countedSlot_writeSlot (i : Nat) (x : Slot) (s : State) (a : Byte) (d : Direction) : countedSlot (writeSlot i x s) a d = countedSlot s a d := rfl
@[simp] theorem clockReading_writeSlot (i : Nat) (x : Slot) (s : State) : clockReading (writeSlot i x s) = clockReading s := rfl

@[simp] theorem latchAt_setInputMode (l : Byte) (m : InputMode) (s : State) (j : Nat) : latchAt (setInputMode l m s) j = latchAt s j := rfl
@[simp] theorem slotAt_setInputMode (l : Byte) (m : InputMode) (s : State) (j : Nat) : slotAt (setInputMode l m s) j = slotAt s j := rfl
@[simp] theorem bindingAt_setInputMode (l : Byte) (m : InputMode) (s : State) (a : Byte) : bindingAt (setInputMode l m s) a = bindingAt s a := rfl
@[simp] theorem countedSlot_setInputMode (l : Byte) (m : InputMode) (s : State) (a : Byte) (d : Direction) : countedSlot (setInputMode l m s) a d = countedSlot s a d := rfl
@[simp] theorem clockReading_setInputMode (l : Byte) (m : InputMode) (s : State) : clockReading (setInputMode l m s) = clockReading s := rfl

@[simp] theorem latchAt_writeBinding (l : Byte) (b : Option Binding) (s : State) (j : Nat) : latchAt (writeBinding l b s) j = latchAt s j := rfl
@[simp] theorem slotAt_writeBinding (l : Byte) (b : Option Binding) (s : State) (j : Nat) : slotAt (writeBinding l b s) j = slotAt s j := rfl
@[simp] theorem lineModeAt_writeBinding (l : Byte) (b : Option Binding) (s : State) (a : Byte) : lineModeAt (writeBinding l b s) a = lineModeAt s a := rfl
@[simp] theorem clockReading_writeBinding (l : Byte) (b : Option Binding) (s : State) : clockReading (writeBinding l b s) = clockReading s := rfl

@[simp] theorem latchAt_disarm (l : Byte) (s : State) (j : Nat) : latchAt (disarm l s) j = latchAt s j := rfl
@[simp] theorem slotAt_disarm (l : Byte) (s : State) (j : Nat) : slotAt (disarm l s) j = slotAt s j := rfl
@[simp] theorem lineModeAt_disarm (l : Byte) (s : State) (a : Byte) : lineModeAt (disarm l s) a = lineModeAt s a := rfl
@[simp] theorem clockReading_disarm (l : Byte) (s : State) : clockReading (disarm l s) = clockReading s := rfl

@[simp] theorem latchAt_emit (bs : List Byte) (s : State) (j : Nat) : latchAt (emit bs s) j = latchAt s j := rfl
@[simp] theorem slotAt_emit (bs : List Byte) (s : State) (j : Nat) : slotAt (emit bs s) j = slotAt s j := rfl
@[simp] theorem bindingAt_emit (bs : List Byte) (s : State) (a : Byte) : bindingAt (emit bs s) a = bindingAt s a := rfl
@[simp] theorem lineModeAt_emit (bs : List Byte) (s : State) (a : Byte) : lineModeAt (emit bs s) a = lineModeAt s a := rfl
@[simp] theorem countedSlot_emit (bs : List Byte) (s : State) (a : Byte) (d : Direction) : countedSlot (emit bs s) a d = countedSlot s a d := rfl
@[simp] theorem clockReading_emit (bs : List Byte) (s : State) : clockReading (emit bs s) = clockReading s := rfl

@[simp] theorem latchAt_finish (o : OpOutcome) (s : State) (j : Nat) : latchAt (finish o s) j = latchAt s j := rfl
@[simp] theorem slotAt_finish (o : OpOutcome) (s : State) (j : Nat) : slotAt (finish o s) j = slotAt s j := rfl
@[simp] theorem bindingAt_finish (o : OpOutcome) (s : State) (a : Byte) : bindingAt (finish o s) a = bindingAt s a := rfl
@[simp] theorem lineModeAt_finish (o : OpOutcome) (s : State) (a : Byte) : lineModeAt (finish o s) a = lineModeAt s a := rfl
@[simp] theorem countedSlot_finish (o : OpOutcome) (s : State) (a : Byte) (d : Direction) : countedSlot (finish o s) a d = countedSlot s a d := rfl
@[simp] theorem clockReading_finish (o : OpOutcome) (s : State) : clockReading (finish o s) = clockReading s := rfl

@[simp] theorem latchAt_raiseDiag (e : Diag) (s : State) (j : Nat) : latchAt (raiseDiag e s) j = latchAt s j := rfl
@[simp] theorem slotAt_raiseDiag (e : Diag) (s : State) (j : Nat) : slotAt (raiseDiag e s) j = slotAt s j := rfl
@[simp] theorem bindingAt_raiseDiag (e : Diag) (s : State) (a : Byte) : bindingAt (raiseDiag e s) a = bindingAt s a := rfl
@[simp] theorem lineModeAt_raiseDiag (e : Diag) (s : State) (a : Byte) : lineModeAt (raiseDiag e s) a = lineModeAt s a := rfl
@[simp] theorem countedSlot_raiseDiag (e : Diag) (s : State) (a : Byte) (d : Direction) : countedSlot (raiseDiag e s) a d = countedSlot s a d := rfl
@[simp] theorem clockReading_raiseDiag (e : Diag) (s : State) : clockReading (raiseDiag e s) = clockReading s := rfl

@[simp] theorem slotAt_incrementLatch (i : Nat) (s : State) (j : Nat) : slotAt (incrementLatch i s) j = slotAt s j := rfl
@[simp] theorem bindingAt_incrementLatch (i : Nat) (s : State) (a : Byte) : bindingAt (incrementLatch i s) a = bindingAt s a := rfl
@[simp] theorem lineModeAt_incrementLatch (i : Nat) (s : State) (a : Byte) : lineModeAt (incrementLatch i s) a = lineModeAt s a := rfl
@[simp] theorem countedSlot_incrementLatch (i : Nat) (s : State) (a : Byte) (d : Direction) : countedSlot (incrementLatch i s) a d = countedSlot s a d := rfl
@[simp] theorem clockReading_incrementLatch (i : Nat) (s : State) : clockReading (incrementLatch i s) = clockReading s := rfl

@[simp] theorem bindingAt_allocate (i : Nat) (l : Byte) (m : TriggerMode) (h : Half) (s : State) (a : Byte) : bindingAt (allocate i l m h s) a = bindingAt s a := rfl
@[simp] theorem lineModeAt_allocate (i : Nat) (l : Byte) (m : TriggerMode) (h : Half) (s : State) (a : Byte) : lineModeAt (allocate i l m h s) a = lineModeAt s a := rfl
@[simp] theorem countedSlot_allocate (i : Nat) (l : Byte) (m : TriggerMode) (h : Half) (s : State) (a : Byte) (d : Direction) : countedSlot (allocate i l m h s) a d = countedSlot s a d := rfl
@[simp] theorem clockReading_allocate (i : Nat) (l : Byte) (m : TriggerMode) (h : Half) (s : State) : clockReading (allocate i l m h s) = clockReading s := rfl

@[simp] theorem latchAt_resync (n : Nat) (t : Word) (s : State) (j : Nat) : latchAt (resync n t s) j = latchAt s j := rfl
@[simp] theorem bindingAt_resync (n : Nat) (t : Word) (s : State) (a : Byte) : bindingAt (resync n t s) a = bindingAt s a := rfl
@[simp] theorem lineModeAt_resync (n : Nat) (t : Word) (s : State) (a : Byte) : lineModeAt (resync n t s) a = lineModeAt s a := rfl
@[simp] theorem countedSlot_resync (n : Nat) (t : Word) (s : State) (a : Byte) (d : Direction) : countedSlot (resync n t s) a d = countedSlot s a d := rfl
@[simp] theorem clockReading_resync (n : Nat) (t : Word) (s : State) : clockReading (resync n t s) = clockReading s := rfl

@[simp] theorem bindingAt_drainSlot (i : Nat) (s : State) (a : Byte) : bindingAt (drainSlot i s) a = bindingAt s a := rfl
@[simp] theorem lineModeAt_drainSlot (i : Nat) (s : State) (a : Byte) : lineModeAt (drainSlot i s) a = lineModeAt s a := rfl
@[simp] theorem countedSlot_drainSlot (i : Nat) (s : State) (a : Byte) (d : Direction) : countedSlot (drainSlot i s) a d = countedSlot s a d := rfl
@[simp] theorem clockReading_drainSlot (i : Nat) (s : State) : clockReading (drainSlot i s) = clockReading s := rfl

@[simp] theorem latchAt_closeFrame (s : State) (j : Nat) : latchAt (closeFrame s) j = latchAt s j := rfl
@[simp] theorem slotAt_closeFrame (s : State) (j : Nat) : slotAt (closeFrame s) j = slotAt s j := rfl
@[simp] theorem bindingAt_closeFrame (s : State) (a : Byte) : bindingAt (closeFrame s) a = bindingAt s a := rfl
@[simp] theorem lineModeAt_closeFrame (s : State) (a : Byte) : lineModeAt (closeFrame s) a = lineModeAt s a := rfl
@[simp] theorem countedSlot_closeFrame (s : State) (a : Byte) (d : Direction) : countedSlot (closeFrame s) a d = countedSlot s a d := rfl
@[simp] theorem clockReading_closeFrame (s : State) : clockReading (closeFrame s) = clockReading s := rfl

@[simp] theorem latchAt_setNumSlots (n : Nat) (s : State) (j : Nat) : latchAt (setNumSlots n s) j = latchAt s j := rfl
@[simp] theorem slotAt_setNumSlots (n : Nat) (s : State) (j : Nat) : slotAt (setNumSlots n s) j = slotAt s j := rfl
@[simp] theorem bindingAt_setNumSlots (n : Nat) (s : State) (a : Byte) : bindingAt (setNumSlots n s) a = bindingAt s a := rfl
@[simp] theorem lineModeAt_setNumSlots (n : Nat) (s : State) (a : Byte) : lineModeAt (setNumSlots n s) a = lineModeAt s a := rfl
@[simp] theorem countedSlot_setNumSlots (n : Nat) (s : State) (a : Byte) (d : Direction) : countedSlot (setNumSlots n s) a d = countedSlot s a d := rfl
@[simp] theorem clockReading_setNumSlots (n : Nat) (s : State) : clockReading (setNumSlots n s) = clockReading s := rfl

@[simp] theorem latchAt_setTick (p : TickPhase) (s : State) (j : Nat) : latchAt (setTick p s) j = latchAt s j := rfl
@[simp] theorem slotAt_setTick (p : TickPhase) (s : State) (j : Nat) : slotAt (setTick p s) j = slotAt s j := rfl
@[simp] theorem bindingAt_setTick (p : TickPhase) (s : State) (a : Byte) : bindingAt (setTick p s) a = bindingAt s a := rfl
@[simp] theorem lineModeAt_setTick (p : TickPhase) (s : State) (a : Byte) : lineModeAt (setTick p s) a = lineModeAt s a := rfl
@[simp] theorem countedSlot_setTick (p : TickPhase) (s : State) (a : Byte) (d : Direction) : countedSlot (setTick p s) a d = countedSlot s a d := rfl
@[simp] theorem clockReading_setTick (p : TickPhase) (s : State) : clockReading (setTick p s) = clockReading s := rfl

@[simp] theorem latchAt_setPolls (rs : List PollRequest) (s : State) (j : Nat) : latchAt (setPolls rs s) j = latchAt s j := rfl
@[simp] theorem slotAt_setPolls (rs : List PollRequest) (s : State) (j : Nat) : slotAt (setPolls rs s) j = slotAt s j := rfl
@[simp] theorem bindingAt_setPolls (rs : List PollRequest) (s : State) (a : Byte) : bindingAt (setPolls rs s) a = bindingAt s a := rfl
@[simp] theorem lineModeAt_setPolls (rs : List PollRequest) (s : State) (a : Byte) : lineModeAt (setPolls rs s) a = lineModeAt s a := rfl
@[simp] theorem countedSlot_setPolls (rs : List PollRequest) (s : State) (a : Byte) (d : Direction) : countedSlot (setPolls rs s) a d = countedSlot s a d := rfl
@[simp] theorem clockReading_setPolls (rs : List PollRequest) (s : State) : clockReading (setPolls rs s) = clockReading s := rfl

@[simp] theorem latchAt_setEdges (es : List EdgeEvent) (s : State) (j : Nat) : latchAt (setEdges es s) j = latchAt s j := rfl
@[simp] theorem slotAt_setEdges (es : List EdgeEvent) (s : State) (j : Nat) : slotAt (setEdges es s) j = slotAt s j := rfl
@[simp] theorem bindingAt_setEdges (es : List EdgeEvent) (s : State) (a : Byte) : bindingAt (setEdges es s) a = bindingAt s a := rfl
@[simp] theorem lineModeAt_setEdges (es : List EdgeEvent) (s : State) (a : Byte) : lineModeAt (setEdges es s) a = lineModeAt s a := rfl
@[simp] theorem countedSlot_setEdges (es : List EdgeEvent) (s : State) (a : Byte) (d : Direction) : countedSlot (setEdges es s) a d = countedSlot s a d := rfl
@[simp] theorem clockReading_setEdges (es : List EdgeEvent) (s : State) : clockReading (setEdges es s) = clockReading s := rfl

@[simp] theorem latchAt_setTurns (ts : List Turn) (s : State) (j : Nat) : latchAt (setTurns ts s) j = latchAt s j := rfl
@[simp] theorem slotAt_setTurns (ts : List Turn) (s : State) (j : Nat) : slotAt (setTurns ts s) j = slotAt s j := rfl
@[simp] theorem bindingAt_setTurns (ts : List Turn) (s : State) (a : Byte) : bindingAt (setTurns ts s) a = bindingAt s a := rfl
@[simp] theorem lineModeAt_setTurns (ts : List Turn) (s : State) (a : Byte) : lineModeAt (setTurns ts s) a = lineModeAt s a := rfl
@[simp] theorem countedSlot_setTurns (ts : List Turn) (s : State) (a : Byte) (d : Direction) : countedSlot (setTurns ts s) a d = countedSlot s a d := rfl
@[simp] theorem clockReading_setTurns (ts : List Turn) (s : State) : clockReading (setTurns ts s) = clockReading s := rfl

@[simp] theorem latchAt_setClock (ts : List Word) (s : State) (j : Nat) : latchAt (setClock ts s) j = latchAt s j := rfl
@[simp] theorem slotAt_setClock (ts : List Word) (s : State) (j : Nat) : slotAt (setClock ts s) j = slotAt s j := rfl
@[simp] theorem bindingAt_setClock (ts : List Word) (s : State) (a : Byte) : bindingAt (setClock ts s) a = bindingAt s a := rfl
@[simp] theorem lineModeAt_setClock (ts : List Word) (s : State) (a : Byte) : lineModeAt (setClock ts s) a = lineModeAt s a := rfl
@[simp] theorem countedSlot_setClock (ts : List Word) (s : State) (a : Byte) (d : Direction) : countedSlot (setClock ts s) a d = countedSlot s a d := rfl

@[simp] theorem latchAt_countDraw (s : State) (j : Nat) : latchAt (countDraw s) j = latchAt s j := rfl
@[simp] theorem slotAt_countDraw (s : State) (j : Nat) : slotAt (countDraw s) j = slotAt s j := rfl
@[simp] theorem bindingAt_countDraw (s : State) (a : Byte) : bindingAt (countDraw s) a = bindingAt s a := rfl
@[simp] theorem lineModeAt_countDraw (s : State) (a : Byte) : lineModeAt (countDraw s) a = lineModeAt s a := rfl
@[simp] theorem countedSlot_countDraw (s : State) (a : Byte) (d : Direction) : countedSlot (countDraw s) a d = countedSlot s a d := rfl

@[simp] theorem latchAt_afterSample (s : State) (j : Nat) : latchAt (afterSample s) j = latchAt s j := by unfold afterSample; split <;> rfl
@[simp] theorem slotAt_afterSample (s : State) (j : Nat) : slotAt (afterSample s) j = slotAt s j := by unfold afterSample; split <;> rfl
@[simp] theorem bindingAt_afterSample (s : State) (a : Byte) : bindingAt (afterSample s) a = bindingAt s a := by unfold afterSample; split <;> rfl
@[simp] theorem lineModeAt_afterSample (s : State) (a : Byte) : lineModeAt (afterSample s) a = lineModeAt s a := by unfold afterSample; split <;> rfl
@[simp] theorem countedSlot_afterSample (s : State) (a : Byte) (d : Direction) : countedSlot (afterSample s) a d = countedSlot s a d := by unfold afterSample; split <;> rfl
@[simp] theorem latchAt_activate (i : Nat) (s : State) (j : Nat) : latchAt (activate i s) j = latchAt s j := latchAt_afterSample s j
@[simp] theorem bindingAt_activate (i : Nat) (s : State) (a : Byte) : bindingAt (activate i s) a = bindingAt s a := bindingAt_afterSample s a
@[simp] theorem lineModeAt_activate (i : Nat) (s : State) (a : Byte) : lineModeAt (activate i s) a = lineModeAt s a := lineModeAt_afterSample s a
@[simp] theorem countedSlot_activate (i : Nat) (s : State) (a : Byte) (d : Direction) : countedSlot (activate i s) a d = countedSlot s a d := countedSlot_afterSample s a d

end Sys2Proof.Machine
end

