-- ==== Sys2Proof/Laws/Ops.lean ====
section
/-! SUPPORT. What the shared operations do, said once: reads after writes, the guard of the poll loop, arming, disarming, the
resync, the due test and the micro-steps of TICK. -/

namespace Sys2Proof.Machine

/-! ### Reads depend on one field -/

theorem latchAt_congr {s t : State} (h : t.latches = s.latches) (i : Nat) : latchAt t i = latchAt s i := by
  simp [latchAt, h]

theorem slotAt_congr {s t : State} (h : t.slots = s.slots) (i : Nat) : slotAt t i = slotAt s i := by
  simp [slotAt, h]

theorem bindingAt_congr {s t : State} (h : t.bindings = s.bindings) (l : Byte) : bindingAt t l = bindingAt s l := by
  simp [bindingAt, h]

theorem lineModeAt_congr {s t : State} (h : t.lineModes = s.lineModes) (l : Byte) : lineModeAt t l = lineModeAt s l := by
  simp [lineModeAt, h]

theorem slotAt_eq_getElem {s : State} {i : Nat} (h : i < s.slots.length) : slotAt s i = s.slots[i] := by
  simp [slotAt, h]

/-! ### Reads after writes -/

theorem latchAt_writeLatch (i j : Nat) (v : Word) (s : State) :
    latchAt (writeLatch i v s) j = if i = j ∧ i < s.latches.length then v else latchAt s j := by
  simp only [latchAt, writeLatch_latches, List.getD_eq_getElem?_getD, List.getElem?_set]
  by_cases h : i = j
  · subst h
    by_cases h' : i < s.latches.length <;> simp [h']
  · simp [h]

@[simp] theorem latchAt_writeLatch_ne {i j : Nat} (h : i ≠ j) (v : Word) (s : State) :
    latchAt (writeLatch i v s) j = latchAt s j := by simp [latchAt_writeLatch, h]

theorem latchAt_writeLatch_same {i : Nat} {s : State} (h : i < s.latches.length) (v : Word) :
    latchAt (writeLatch i v s) i = v := by simp [latchAt_writeLatch, h]

theorem slotAt_writeSlot (i j : Nat) (x : Slot) (s : State) :
    slotAt (writeSlot i x s) j = if i = j ∧ i < s.slots.length then x else slotAt s j := by
  simp only [slotAt, writeSlot_slots, List.getD_eq_getElem?_getD, List.getElem?_set]
  by_cases h : i = j
  · subst h
    by_cases h' : i < s.slots.length <;> simp [h']
  · simp [h]

@[simp] theorem slotAt_writeSlot_ne {i j : Nat} (h : i ≠ j) (x : Slot) (s : State) :
    slotAt (writeSlot i x s) j = slotAt s j := by simp [slotAt_writeSlot, h]

theorem slotAt_writeSlot_same {i : Nat} {s : State} (h : i < s.slots.length) (x : Slot) :
    slotAt (writeSlot i x s) i = x := by simp [slotAt_writeSlot, h]

theorem bindingAt_writeBinding (l x : Byte) (b : Option Binding) (s : State) :
    bindingAt (writeBinding l b s) x = if l = x then b else bindingAt s x := by
  simp only [bindingAt, writeBinding_bindings, Vector.getElem_set]
  by_cases h : l = x
  · simp [h]
  · have : l.toNat ≠ x.toNat := fun e => h (BitVec.eq_of_toNat_eq e)
    simp [h, this]

theorem lineModeAt_setInputMode (l x : Byte) (m : InputMode) (s : State) :
    lineModeAt (setInputMode l m s) x = if l = x then some m else lineModeAt s x := by
  simp only [lineModeAt, setInputMode_lineModes, Vector.getElem_set]
  by_cases h : l = x
  · simp [h]
  · have : l.toNat ≠ x.toNat := fun e => h (BitVec.eq_of_toNat_eq e)
    simp [h, this]

/-- Disarming (R37). -/
theorem bindingAt_disarm (l x : Byte) (s : State) :
    bindingAt (disarm l s) x = if l = x then none else bindingAt s x := bindingAt_writeBinding l x none s

/-- A list of disarms unbinds exactly the listed lines. -/
theorem bindingAt_disarmAll (ls : List Byte) (x : Byte) (s : State) :
    bindingAt (disarmAll ls s) x = if x ∈ ls then none else bindingAt s x := by
  induction ls generalizing s with
  | nil => rfl
  | cons l ls ih =>
    show bindingAt (disarmAll ls (disarm l s)) x = _
    rw [ih, bindingAt_disarm]
    by_cases h1 : x ∈ ls
    · simp [h1]
    · by_cases h2 : l = x
      · simp [h2]
      · have h3 : ¬x = l := fun e => h2 e.symm
        simp [h1, h2, h3]

/-! ### The guard of the poll loop -/

theorem whenIdle_of_idle {s : State} (h : s.tick = .idle) (r : Result) : whenIdle s r = r := by
  simp [whenIdle, h]

theorem whenIdle_of_draining {s : State} {due : List Nat} (h : s.tick = .draining due) (r : Result) :
    whenIdle s r = .refused .tickIncomplete := by simp [whenIdle, h]

/-- An operation behind the guard completes only with no TICK incomplete. -/
theorem whenIdle_next {s t : State} {r : Result} (h : whenIdle s r = .next t) : s.tick = .idle ∧ r = .next t := by
  unfold whenIdle at h
  split at h
  · exact ⟨‹_›, h⟩
  · cases h

/-! ### Arming -/

/-- What Arm can do (R36): bind the line, and only where it may. -/
theorem arm_some {line : Byte} {k : EdgeKind} {i : Nat} {s t : State} (h : arm line k i s = some t) :
    (bindingAt s line = none ∨ s.cfg.dupLine = .replace) ∧ t = writeBinding line (some ⟨i, k⟩) s := by
  unfold arm at h
  split at h <;> simp_all

theorem arm_allowed {line : Byte} {s : State} (h : bindingAt s line = none ∨ s.cfg.dupLine = .replace)
    (k : EdgeKind) (i : Nat) : arm line k i s = some (writeBinding line (some ⟨i, k⟩) s) := by
  unfold arm
  split <;> simp_all

theorem arm_refused {line : Byte} {s : State} {b : Binding} (h : bindingAt s line = some b)
    (hp : s.cfg.dupLine = .refuse) (k : EdgeKind) (i : Nat) : arm line k i s = none := by
  simp [arm, h, hp]

theorem edgeKindOf_none {m : TriggerMode} : edgeKindOf m = none ↔ m = .unrecognized := by cases m <;> decide

theorem inputModeOf_none {m : TriggerMode} : inputModeOf m = none ↔ m = .unrecognized := by cases m <;> decide

/-- Step 4 of CONFIG: nothing for an unrecognized mode (R101), else the input mode and then the trigger (R99). -/
theorem armSlot_some {i : Nat} {line : Byte} {m : TriggerMode} {s t : State} (h : armSlot i line m s = some t) :
    (m = .unrecognized ∧ t = s) ∨
      ∃ k im, edgeKindOf m = some k ∧ inputModeOf m = some im ∧
        (bindingAt s line = none ∨ s.cfg.dupLine = .replace) ∧
        t = writeBinding line (some ⟨i, k⟩) (setInputMode line im s) := by
  cases m with
  | unrecognized => exact .inl ⟨rfl, (by simpa [armSlot, edgeKindOf] using h.symm)⟩
  | _ => exact .inr ⟨_, _, rfl, rfl, (arm_some h).1, (arm_some h).2⟩

theorem armSlot_unrecognized (i : Nat) (line : Byte) (s : State) : armSlot i line .unrecognized s = some s := rfl

theorem armSlot_recognized {i : Nat} {line : Byte} {m : TriggerMode} {k : EdgeKind} {im : InputMode} {s : State}
    (hk : edgeKindOf m = some k) (hm : inputModeOf m = some im) :
    armSlot i line m s = arm line k i (setInputMode line im s) := by simp [armSlot, hk, hm]

/-! ### Allocation and resync -/

theorem latchAt_allocate (i j : Nat) (l : Byte) (m : TriggerMode) (h : Half) (s : State) :
    latchAt (allocate i l m h s) j = if i = j ∧ i < s.latches.length then 0#32 else latchAt s j := by
  rw [← latchAt_writeLatch]; rfl

theorem slotAt_allocate (i j : Nat) (l : Byte) (m : TriggerMode) (h : Half) (s : State) :
    slotAt (allocate i l m h s) j = if i = j ∧ i < s.slots.length then
      { slotAt s i with line := l, mode := m, interval := h, lastValue := 0#32 } else slotAt s j := by
  rw [← slotAt_writeSlot]; rfl

/-- The resync writes the epoch of the first `n` slots and nothing else (R100). -/
theorem slotAt_resync (n : Nat) (t : Word) (s : State) (j : Nat) :
    slotAt (resync n t s) j =
      if j < n ∧ j < s.slots.length then { slotAt s j with lastTime := t } else slotAt s j := by
  simp only [slotAt, resync_slots, List.getD_eq_getElem?_getD]
  by_cases hn : j < n
  · by_cases hl : j < s.slots.length
    · rw [List.getElem?_append_left (by simp; omega)]
      simp [hn, hl]
    · rw [List.getElem?_append_right (by simp; omega)]
      rw [List.getElem?_eq_none (by simp; omega)]
      simp [hl]
  · by_cases hl : j < s.slots.length
    · rw [List.getElem?_append_right (by simp; omega)]
      simp only [hn, false_and, if_false, List.length_map, List.length_take, List.getElem?_drop]
      congr 2
      omega
    · rw [List.getElem?_eq_none (by simp; omega)]
      simp [hl]

@[simp] theorem resync_length (n : Nat) (t : Word) (s : State) : (resync n t s).slots.length = s.slots.length := by
  simp; omega

theorem slotAt_activate (i : Nat) (s : State) (j : Nat) :
    slotAt (activate i s) j =
      if j < i + 1 ∧ j < s.slots.length then { slotAt s j with lastTime := clockReading s } else slotAt s j := by
  have h := slotAt_resync (i + 1) (clockReading s) (afterSample s) j
  rw [slotAt_congr (afterSample_slots s), afterSample_slots] at h
  exact h

@[simp] theorem activate_slots_length (i : Nat) (s : State) : (activate i s).slots.length = s.slots.length := by
  simp; omega

/-! ### CONFIG -/

/-- What a CONFIG can do from step 1 on (R96): it is full, or it allocates, arms where the mode is recognized, and
activates. -/
theorem configure_next {line : Byte} {m : TriggerMode} {h o : Byte} {s t : State}
    (ht : configure line m h o s = .next t) :
    (s.numSlots = s.cfg.maxSlots ∧ t = finish .full s) ∨
    (s.numSlots ≠ s.cfg.maxSlots ∧ ∃ u,
      armSlot s.numSlots line m (allocate s.numSlots line m (intervalOf h o) s) = some u ∧
      t = finish (allocatedOutcome m) (activate s.numSlots u)) := by
  unfold configure at ht
  split at ht
  · cases ht; exact .inl ⟨‹_›, rfl⟩
  · split at ht
    · cases ht; exact .inr ⟨‹_›, _, ‹_›, rfl⟩
    · cases ht

theorem configure_full {s : State} (hf : s.numSlots = s.cfg.maxSlots) (line : Byte) (m : TriggerMode) (h o : Byte) :
    configure line m h o s = .next (finish .full s) := by simp [configure, hf]

theorem outcomeAnswer_allocated (m : TriggerMode) : outcomeAnswer (allocatedOutcome m) = true := by cases m <;> rfl

/-- A CONFIG of any mode is the shared operation behind the guard. -/
theorem exec_config {i : Instr} {line h o : Byte} {m : TriggerMode} (hc : i.configOperands = some (line, m, h, o))
    (s : State) : exec i s = whenIdle s (configure line m h o s) := by
  cases i <;> simp only [Instr.configOperands, Option.some.injEq, Prod.mk.injEq, reduceCtorEq] at hc <;>
    (obtain ⟨rfl, rfl, rfl, rfl⟩ := hc; rfl)

/-! ### TICK -/

theorem mem_dueSlots {s : State} {t : Word} {i : Nat} :
    i ∈ dueSlots s t ↔ i < s.numSlots ∧ isDue (slotAt s i) t = true := by
  simp [dueSlots]

theorem dueSlots_sorted (s : State) (t : Word) : (dueSlots s t).Pairwise (· < ·) :=
  List.Pairwise.filter _ List.pairwise_lt_range

/-- Micro-step 1 past the test for no slots: nothing due and only a sample taken (R119), or the frame opened (R116). -/
theorem openFrame_cases (s : State) :
    (dueSlots s (clockReading s) = [] ∧ openFrame s = afterSample s) ∨
    (dueSlots s (clockReading s) ≠ [] ∧
      openFrame s = setTick (.draining (dueSlots s (clockReading s)))
        (emit [s.cfg.frameStart, s.cfg.responseTag, maskOf (dueSlots s (clockReading s))] (afterSample s))) := by
  unfold openFrame
  by_cases h : dueSlots s (clockReading s) = [] <;> simp [h]

/-- What a micro-step can do (R116). -/
theorem tickMicroStep_cases (s : State) :
    (s.tick = .idle ∧ tickMicroStep s = s) ∨ (s.tick = .draining [] ∧ tickMicroStep s = closeFrame s) ∨
    ∃ i rest, s.tick = .draining (i :: rest) ∧ tickMicroStep s = setTick (.draining rest) (drainSlot i s) := by
  unfold tickMicroStep
  split
  · exact .inl ⟨‹_›, rfl⟩
  · exact .inr (.inl ⟨‹_›, rfl⟩)
  · exact .inr (.inr ⟨_, _, ‹_›, rfl⟩)

theorem latchAt_drainSlot (i j : Nat) (s : State) :
    latchAt (drainSlot i s) j = if i = j ∧ i < s.latches.length then 0#32 else latchAt s j := by
  rw [← latchAt_writeLatch]; rfl

theorem slotAt_drainSlot (i j : Nat) (s : State) :
    slotAt (drainSlot i s) j = if i = j ∧ i < s.slots.length then
      { slotAt s i with
        lastTime := (slotAt s i).lastTime + (slotAt s i).interval.setWidth 32, lastValue := latchAt s i }
      else slotAt s j := by
  rw [← slotAt_writeSlot]; rfl

/-! ### EDGE -/

theorem countedSlot_eq_some {s : State} {line : Byte} {d : Direction} {i : Nat} :
    countedSlot s line d = some i ↔ ∃ k, bindingAt s line = some ⟨i, k⟩ ∧ qualifies k d = true := by
  unfold countedSlot
  cases bindingAt s line with
  | none => simp
  | some b =>
    obtain ⟨bs, bk⟩ := b
    by_cases hq : qualifies bk d = true
    · simp [hq]
    · simp only [hq, Bool.false_eq_true, if_false, reduceCtorEq, Option.some.injEq, Binding.mk.injEq, false_iff]
      rintro ⟨k, ⟨rfl, rfl⟩, h⟩
      exact hq h

theorem execEdge_cases (line : Byte) (d : Direction) (s : State) :
    (countedSlot s line d = none ∧ execEdge line d s = .next s) ∨
    ∃ i, countedSlot s line d = some i ∧ execEdge line d s = .next (incrementLatch i s) := by
  unfold execEdge
  cases h : countedSlot s line d with
  | none => exact .inl ⟨rfl, rfl⟩
  | some i => exact .inr ⟨i, rfl, rfl⟩

theorem latchAt_incrementLatch (i j : Nat) (s : State) :
    latchAt (incrementLatch i s) j = if i = j ∧ i < s.latches.length then latchAt s i + 1#32 else latchAt s j :=
  latchAt_writeLatch _ _ _ _

end Sys2Proof.Machine
end

