-- ==== Sys2Proof/Laws/PerInstr.lean ====
section
/-! SUPPORT. What holds of every operation as syntax: its encoding is on the port of 10_state.md R39 that carries it. -/

namespace Sys2Proof.Laws.EncodedOnItsPort

/-- An operation's encoding is a transaction on the operation's own port. -/
def Statement (i : Instr) : Prop := ∀ c : Config, (encode c i).port = i.port

theorem configChange (line high low : Byte) : Statement (.configChange line high low) := fun _ => rfl
theorem configRising (line high low : Byte) : Statement (.configRising line high low) := fun _ => rfl
theorem configFalling (line high low : Byte) : Statement (.configFalling line high low) := fun _ => rfl
theorem configChangePu (line high low : Byte) : Statement (.configChangePu line high low) := fun _ => rfl
theorem configRisingPu (line high low : Byte) : Statement (.configRisingPu line high low) := fun _ => rfl
theorem configFallingPu (line high low : Byte) : Statement (.configFallingPu line high low) := fun _ => rfl
theorem configUnrecognized (line mode high low : Byte) : Statement (.configUnrecognized line mode high low) :=
  fun _ => rfl
theorem query (payload : List Byte) : Statement (.query payload) := fun _ => rfl
theorem unknown (code : Byte) (payload : List Byte) : Statement (.unknown code payload) := fun _ => rfl
theorem tick : Statement .tick := fun _ => rfl
theorem edge (line : Byte) (dir : Direction) : Statement (.edge line dir) := fun _ => rfl
theorem reset : Statement .reset := fun _ => rfl
theorem pinMode (line mode : Byte) : Statement (.pinMode line mode) := fun _ => rfl
theorem capability (line : Byte) : Statement (.capability line) := fun _ => rfl
theorem report (mask : Byte) (values : List Word) : Statement (.report mask values) := fun _ => rfl
theorem capabilityResponse (count : Byte) : Statement (.capabilityResponse count) := fun _ => rfl

end Sys2Proof.Laws.EncodedOnItsPort
end

