-- ==== Sys2Proof/Laws/Step.lean ====
section
/-! SUPPORT. What a step can do, said once: the turn taken, the agent's step, and the outcome of each operation that completes. -/

namespace Sys2Proof.Machine

/-! ### Turns -/

/-- Taking a turn writes only the turns and the count of free values drawn. -/
theorem nextTurn_frame (s : State) :
    (nextTurn s).2 = { s with turns := (nextTurn s).2.turns, draws := (nextTurn s).2.draws } := by
  unfold nextTurn
  split
  · rfl
  · split <;> rfl

@[simp] theorem nextTurn_cfg (s : State) : (nextTurn s).2.cfg = s.cfg := by rw [nextTurn_frame]
@[simp] theorem nextTurn_latches (s : State) : (nextTurn s).2.latches = s.latches := by rw [nextTurn_frame]
@[simp] theorem nextTurn_slots (s : State) : (nextTurn s).2.slots = s.slots := by rw [nextTurn_frame]
@[simp] theorem nextTurn_numSlots (s : State) : (nextTurn s).2.numSlots = s.numSlots := by rw [nextTurn_frame]
@[simp] theorem nextTurn_bindings (s : State) : (nextTurn s).2.bindings = s.bindings := by rw [nextTurn_frame]
@[simp] theorem nextTurn_lineModes (s : State) : (nextTurn s).2.lineModes = s.lineModes := by rw [nextTurn_frame]
@[simp] theorem nextTurn_tick (s : State) : (nextTurn s).2.tick = s.tick := by rw [nextTurn_frame]
@[simp] theorem nextTurn_output (s : State) : (nextTurn s).2.output = s.output := by rw [nextTurn_frame]
@[simp] theorem nextTurn_answers (s : State) : (nextTurn s).2.answers = s.answers := by rw [nextTurn_frame]
@[simp] theorem nextTurn_diags (s : State) : (nextTurn s).2.diags = s.diags := by rw [nextTurn_frame]
@[simp] theorem nextTurn_polls (s : State) : (nextTurn s).2.polls = s.polls := by rw [nextTurn_frame]
@[simp] theorem nextTurn_edges (s : State) : (nextTurn s).2.edges = s.edges := by rw [nextTurn_frame]
@[simp] theorem nextTurn_clock (s : State) : (nextTurn s).2.clock = s.clock := by rw [nextTurn_frame]

/-- A prescribed turn is taken as it is. -/
theorem nextTurn_cons {s : State} {t : Turn} {ts : List Turn} (h : s.turns = t :: ts) :
    nextTurn s = (some t, setTurns ts s) := by simp [nextTurn, h]

/-- With no turn prescribed and no edge pending, the poll loop moves if it can. -/
theorem nextTurn_poll {s : State} (h : s.turns = []) (he : s.edges = []) (hp : pollReady s = true) :
    nextTurn s = (some .pollLoop, s) := by simp [nextTurn, h, he, edgeReady, hp]

/-- With no turn prescribed and nothing for the poll loop, an edge agent moves if one can. -/
theorem nextTurn_edge {s : State} (h : s.turns = []) (hp : pollReady s = false) (he : s.edges ≠ []) :
    nextTurn s = (some .edgeAgent, s) := by
  have : edgeReady s = true := by simpa [edgeReady] using he
  simp [nextTurn, h, hp, this]

/-- Nobody can move. -/
theorem nextTurn_none {s : State} (h : s.turns = []) (hp : pollReady s = false) (he : s.edges = []) :
    nextTurn s = (none, s) := by simp [nextTurn, h, hp, he, edgeReady]

/-! ### What a step runs -/

/-- A prescribed turn is run. -/
theorem step_turn {s : State} {t : Turn} {ts : List Turn} (h : s.turns = t :: ts) :
    step s = runTurn (some t) (setTurns ts s) := by simp only [step, nextTurn_cons h]

/-- The poll loop moves where it alone can. -/
theorem step_poll {s : State} (h : OnlyPollLoop s) (hp : pollReady s = true) : step s = runPollLoop s := by
  simp only [step, nextTurn_poll h.1 h.2 hp, runTurn]

theorem pollReady_of_polls {s : State} {r : PollRequest} {rest : List PollRequest} (h : s.polls = r :: rest) :
    pollReady s = true := by simp [pollReady, h]

theorem pollReady_of_draining {s : State} {due : List Nat} (h : s.tick = .draining due) : pollReady s = true := by
  simp [pollReady, tickBusy, h]

theorem runPollLoop_draining {s : State} {due : List Nat} (h : s.tick = .draining due) :
    runPollLoop s = .next (tickMicroStep s) := by simp only [runPollLoop, h]

theorem runPollLoop_idle {s : State} (h : s.tick = .idle) : runPollLoop s = runPresented s := by
  simp only [runPollLoop, h]

theorem runPresented_ok {s : State} {r : PollRequest} {rest : List PollRequest} {i : Instr} (h : s.polls = r :: rest)
    (hd : decodePoll s.cfg r = .ok i) : runPresented s = exec i (setPolls rest s) := by
  simp only [runPresented, h, hd]

theorem runPresented_error {s : State} {r : PollRequest} {rest : List PollRequest} {e : DecodeError}
    (h : s.polls = r :: rest) (hd : decodePoll s.cfg r = .error e) : runPresented s = .refused (refusalOf e) := by
  simp only [runPresented, h, hd]

theorem runEdgeAgent_cons {s : State} {e : EdgeEvent} {es : List EdgeEvent} (h : s.edges = e :: es) :
    runEdgeAgent s = if s.cfg.irqCapable e.line then exec (decodeEdge e) (setEdges es s) else .next (setEdges es s) := by
  simp only [runEdgeAgent, h]

theorem tickMicroStep_cons {s : State} {i : Nat} {due : List Nat} (h : s.tick = .draining (i :: due)) :
    tickMicroStep s = setTick (.draining due) (drainSlot i s) := by simp only [tickMicroStep, h]

theorem tickMicroStep_nil {s : State} (h : s.tick = .draining []) : tickMicroStep s = closeFrame s := by
  simp only [tickMicroStep, h]

theorem exec_edge_counts {s : State} {line : Byte} {d : Direction} {i : Nat} (h : countedSlot s line d = some i) :
    exec (.edge line d) s = .next (incrementLatch i s) := by simp only [exec, execEdge, h]

theorem exec_edge_none {s : State} {line : Byte} {d : Direction} (h : countedSlot s line d = none) :
    exec (.edge line d) s = .next s := by simp only [exec, execEdge, h]

/-! ### Operations that complete -/

/-- Every way an operation can complete. -/
inductive Completes : Instr → State → State → Prop where
  | configFull {i s line m h o} (hc : i.configOperands = some (line, m, h, o)) (idle : s.tick = .idle)
      (full : s.numSlots = s.cfg.maxSlots) : Completes i s (finish .full s)
  | configAllocated {i s line m h o u} (hc : i.configOperands = some (line, m, h, o)) (idle : s.tick = .idle)
      (free : s.numSlots ≠ s.cfg.maxSlots)
      (armed : armSlot s.numSlots line m (allocate s.numSlots line m (intervalOf h o) s) = some u) :
      Completes i s (finish (allocatedOutcome m) (activate s.numSlots u))
  | query {p s} (idle : s.tick = .idle) : Completes (.query p) s (finish .ok s)
  | unknown {c p s} (idle : s.tick = .idle) :
      Completes (.unknown c p) s (finish .unknownCmd (raiseDiag (.unknownCmd c) s))
  | tickNone {s} (idle : s.tick = .idle) (none : s.numSlots = 0) : Completes .tick s s
  | tickOpen {s} (idle : s.tick = .idle) (some : s.numSlots ≠ 0) : Completes .tick s (openFrame s)
  | edgeNone {l d s} (none : countedSlot s l d = none) : Completes (.edge l d) s s
  | edgeCounts {l d s i} (some : countedSlot s l d = some i) : Completes (.edge l d) s (incrementLatch i s)
  | reset {s} (idle : s.tick = .idle) : Completes .reset s (setNumSlots 0 (disarmAll (activeLines s) s))
  | pinModeOk {l m s} (idle : s.tick = .idle) (mode : m = s.cfg.countMode) (irq : s.cfg.irqCapable l = true) :
      Completes (.pinMode l m) s (finish .ok (setInputMode l .input s))
  | pinModeRejected {l m s} (idle : s.tick = .idle) (no : ¬(m = s.cfg.countMode ∧ s.cfg.irqCapable l = true)) :
      Completes (.pinMode l m) s (finish .rejected s)
  | capabilityOk {l s} (idle : s.tick = .idle) (irq : s.cfg.irqCapable l = true) :
      Completes (.capability l) s (finish .ok (emit (encodeCapabilityResponse s.cfg s.cfg.maxSlotsByte) s))
  | capabilityRejected {l s} (idle : s.tick = .idle) (irq : s.cfg.irqCapable l = false) :
      Completes (.capability l) s (finish .rejected s)
  | reportNone {s} (idle : s.tick = .idle) : Completes (.report 0#8 []) s s
  | report {m vs s} (idle : s.tick = .idle) (wf : reportWellFormed s.cfg m vs = true) :
      Completes (.report m vs) s (emit (encodeReport s.cfg m vs) s)
  | capabilityResponse {n s} (idle : s.tick = .idle) (count : n = s.cfg.maxSlotsByte) :
      Completes (.capabilityResponse n) s (emit (encodeCapabilityResponse s.cfg n) s)

theorem config_completes {i : Instr} {s t : State} {line h o : Byte} {m : TriggerMode}
    (hc : i.configOperands = some (line, m, h, o)) (ht : exec i s = .next t) : Completes i s t := by
  rw [exec_config hc] at ht
  obtain ⟨idle, ht⟩ := whenIdle_next ht
  obtain ⟨hf, rfl⟩ | ⟨hf, u, hu, rfl⟩ := configure_next ht
  · exact .configFull hc idle hf
  · exact .configAllocated hc idle hf hu

/-- The inversion of exec: an operation that answers a next state completes in one of these ways. -/
theorem exec_completes {i : Instr} {s t : State} (h : exec i s = .next t) : Completes i s t := by
  cases i with
  | configChange | configRising | configFalling | configChangePu | configRisingPu | configFallingPu
  | configUnrecognized => exact config_completes rfl h
  | query p =>
    obtain ⟨idle, h⟩ := whenIdle_next (h : execQuery s = .next t)
    cases h; exact .query idle
  | unknown c p =>
    obtain ⟨idle, h⟩ := whenIdle_next (h : execUnknown c s = .next t)
    cases h; exact .unknown idle
  | tick =>
    obtain ⟨idle, h⟩ := whenIdle_next (h : execTick s = .next t)
    split at h <;> cases h
    · exact .tickNone idle ‹_›
    · exact .tickOpen idle ‹_›
  | edge l d =>
    obtain ⟨hc, he⟩ | ⟨i, hc, he⟩ := execEdge_cases l d s
    · cases he.symm.trans h; exact .edgeNone hc
    · cases he.symm.trans h; exact .edgeCounts hc
  | reset =>
    obtain ⟨idle, h⟩ := whenIdle_next (h : execReset s = .next t)
    cases h; exact .reset idle
  | pinMode l m =>
    obtain ⟨idle, h⟩ := whenIdle_next (h : execPinMode l m s = .next t)
    split at h <;> cases h
    · rename_i hc; exact .pinModeOk idle hc.1 hc.2
    · exact .pinModeRejected idle ‹_›
  | capability l =>
    obtain ⟨idle, h⟩ := whenIdle_next (h : execCapability l s = .next t)
    split at h <;> cases h
    · exact .capabilityOk idle ‹_›
    · exact .capabilityRejected idle (by simp_all)
  | report m vs =>
    obtain ⟨idle, ht⟩ := whenIdle_next (h : execReport m vs s = .next t)
    clear h
    split at ht
    · rename_i hc; obtain ⟨rfl, rfl⟩ := hc; cases ht; exact .reportNone idle
    · split at ht <;> cases ht
      exact .report idle ‹_›
  | capabilityResponse n =>
    obtain ⟨idle, h⟩ := whenIdle_next (h : execCapabilityResponse n s = .next t)
    split at h <;> cases h
    exact .capabilityResponse idle ‹_›

/-! ### Steps that complete -/

/-- Every way a step can end in a next state: nothing to do or a turn passed, a micro-step of TICK, an operation taken from
the poll-loop ports, a transition that raises no interrupt, an EDGE. `u` is the state with the turn taken. -/
inductive StepDoes (s u : State) : State → Prop where
  | rests : StepDoes s u u
  | microStep {due} (turn : (nextTurn s).1 = some .pollLoop) (busy : u.tick = .draining due) :
      StepDoes s u (tickMicroStep u)
  | operation {r rest i t} (polls : u.polls = r :: rest) (decodes : decodePoll u.cfg r = .ok i)
      (completes : exec i (setPolls rest u) = .next t) : StepDoes s u t
  | noInterrupt {e rest} (edges : u.edges = e :: rest) (irq : u.cfg.irqCapable e.line = false) :
      StepDoes s u (setEdges rest u)
  | interrupt {e rest t} (turn : (nextTurn s).1 = some .edgeAgent) (edges : u.edges = e :: rest)
      (irq : u.cfg.irqCapable e.line = true)
      (completes : exec (.edge e.line e.dir) (setEdges rest u) = .next t) : StepDoes s u t

theorem runPresented_next {s u t : State} (h : runPresented u = .next t) : StepDoes s u t := by
  unfold runPresented at h
  split at h
  · cases h; exact .rests
  · split at h
    · exact .operation ‹_› ‹_› h
    · cases h

/-- The inversion of step. -/
theorem step_does {s t : State} (h : step s = .next t) : StepDoes s (nextTurn s).2 t := by
  unfold step runTurn at h
  split at h
  · cases h; exact .rests
  · rename_i hm
    unfold runPollLoop at h
    split at h
    · cases h; exact .microStep hm ‹_›
    · exact runPresented_next h
  · rename_i hm
    unfold runEdgeAgent at h
    split at h
    · cases h; exact .rests
    · split at h
      · exact .interrupt hm ‹_› ‹_› h
      · cases h; exact .noInterrupt ‹_› (by simp_all)
  · exact runPresented_next h

end Sys2Proof.Machine
end

