-- ==== Sys2Proof/Tests/Slice0.lean ====
section
/-! SUPPORT. Tests: words and results taken from 95_test_vectors.md, ill-formed terms, and a witness for the hypotheses of
every statement that has some. The parameter values are the tests' own: the spec fixes none (R8). -/

namespace Sys2Proof.Tests

open Sys2Proof.Machine

/-! ### Small states -/

/-- MAX_SLOTS = 6 and REPLACE as in the vectors; line 9 cannot interrupt. -/
def refConfig : Config where
  maxSlots    := 6
  cmdConfig   := 0x20
  cmdQuery    := 0x21
  frameStart  := 0xA0
  responseTag := 0xA1
  frameEnd    := 0xA2
  countMode   := 0x0C
  irqLines    := (Vector.replicate 256 true).set 9 false
  dupLine     := .replace

/-- The reference parameters with room for one slot only. -/
def tinyConfig : Config := { refConfig with maxSlots := 1, maxSlots_pos := by decide, maxSlots_le := by decide }

/-- The reference parameters with the policy REFUSE. -/
def refuseConfig : Config := { refConfig with dupLine := .refuse }

/-- Power-on, the clock at 0. -/
def start : State := { State.powerOn refConfig with clock := [0#32] }

/-- One slot on line 3 of the given mode and edge kind, 100 ms, counted 37 edges since time 0; the clock at 150. -/
def slotOf (m : TriggerMode) (k : EdgeKind) : State :=
  setInputMode 3#8 .input (writeBinding 3#8 (some ⟨0, k⟩)
    { State.powerOn refConfig with
      slots := ⟨3#8, m, 100#16, 0#32, 0#32⟩ :: List.replicate 5 blankSlot
      latches := 37#32 :: List.replicate 5 0#32
      numSlots := 1
      clock := [150#32] })

/-- The slot of W2. -/
def oneSlot : State := slotOf .rising .rising

/-- The state oneSlot inside its TICK, before micro-step 2.0. -/
def draining : State := { oneSlot with tick := .draining [0], output := [0xA0#8, 0xA1#8, 0x01#8], clock := [] }

/-- Slots 0 to 2 due at 101 with latches as in T9, slot 1 not due. -/
def threeSlots : State :=
  { State.powerOn refConfig with
    slots := ⟨1#8, .unrecognized, 100#16, 0#32, 0#32⟩ :: ⟨2#8, .unrecognized, 200#16, 0#32, 0#32⟩ ::
      ⟨3#8, .unrecognized, 50#16, 0#32, 0#32⟩ :: List.replicate 3 blankSlot
    latches := 1#32 :: 9#32 :: 2#32 :: List.replicate 3 0#32
    numSlots := 3
    clock := [101#32] }

/-- A full table of one slot whose line was never armed. -/
def full : State :=
  { State.powerOn tinyConfig with slots := [⟨5#8, .unrecognized, 10#16, 0#32, 0#32⟩], numSlots := 1 }

/-- The state oneSlot under the policy REFUSE. -/
def refusing : State := { oneSlot with cfg := refuseConfig }

/-- What a result shows, none where the machine stopped. -/
def shows {α : Type} (r : Result) (f : State → α) : Option α :=
  match r with
  | .next t => some (f t)
  | _ => none

/-- Why a result stopped. -/
def refusal (r : Result) : Option Refusal :=
  match r with
  | .refused e => some e
  | _ => none

/-! ### Words written out from the encodings (30_encoding.md R65 to R71, R79; vectors C1 to C10, Q2, U2, K1) -/

theorem test_decode_config_change :
    decodePoll refConfig (.command 0x20 [0x03, 0x00, 0x00, 0x64]) = .ok (.configChange 0x03 0x00 0x64) := by decide
theorem test_decode_config_rising :
    decodePoll refConfig (.command 0x20 [0x03, 0x01, 0x00, 0x64]) = .ok (.configRising 0x03 0x00 0x64) := by decide
theorem test_decode_config_falling :
    decodePoll refConfig (.command 0x20 [0x03, 0x02, 0x00, 0x64]) = .ok (.configFalling 0x03 0x00 0x64) := by decide
theorem test_decode_config_change_pu :
    decodePoll refConfig (.command 0x20 [0x03, 0x03, 0x00, 0x64]) = .ok (.configChangePu 0x03 0x00 0x64) := by decide
theorem test_decode_config_rising_pu :
    decodePoll refConfig (.command 0x20 [0x03, 0x04, 0x00, 0x64]) = .ok (.configRisingPu 0x03 0x00 0x64) := by decide
theorem test_decode_config_falling_pu :
    decodePoll refConfig (.command 0x20 [0x03, 0x05, 0x00, 0x64]) = .ok (.configFallingPu 0x03 0x00 0x64) := by decide
theorem test_decode_config_unrecognized_first :
    decodePoll refConfig (.command 0x20 [0x03, 0x06, 0x00, 0x64]) = .ok (.configUnrecognized 0x03 0x06 0x00 0x64) := by
  decide
theorem test_decode_config_unrecognized_last :
    decodePoll refConfig (.command 0x20 [0x03, 0xFF, 0x00, 0x64]) = .ok (.configUnrecognized 0x03 0xFF 0x00 0x64) := by
  decide
theorem test_decode_query : decodePoll refConfig (.command 0x21 [0x01, 0x02, 0x03]) = .ok (.query [0x01, 0x02, 0x03]) := by
  decide
theorem test_decode_unknown :
    decodePoll refConfig (.command 0x22 [0x03, 0x01, 0x00, 0x64]) = .ok (.unknown 0x22 [0x03, 0x01, 0x00, 0x64]) := by
  decide
theorem test_decode_tick : decodePoll refConfig .tick = .ok .tick := by decide
theorem test_decode_reset : decodePoll refConfig .reset = .ok .reset := by decide
theorem test_decode_pin_mode : decodePoll refConfig (.pinMode 0x02 0x0C) = .ok (.pinMode 0x02 0x0C) := by decide
theorem test_decode_capability : decodePoll refConfig (.capability 0x02) = .ok (.capability 0x02) := by decide
theorem test_decode_edge : decode refConfig (.edge ⟨0x03, .rise⟩) = .ok (.edge 0x03 .rise) := by decide
/-- W1 within its markers. -/
theorem test_decode_report :
    decode refConfig (.output [0xA0, 0xA1, 0x05, 0x00, 0x00, 0x00, 0x01, 0x00, 0x00, 0x00, 0x02, 0xA2]) =
      .ok (.report 0x05 [1#32, 2#32]) := by decide
/-- K1. -/
theorem test_decode_capability_response :
    decode refConfig (.output [0x0C, 0x06]) = .ok (.capabilityResponse 0x06) := by decide
/-- F4: the mask says two values and four bytes remain. -/
theorem test_decode_report_short : decodeReport [0x03, 0x00, 0x00, 0x00, 0x01] = none := by decide
/-- C15: three payload bytes. -/
theorem test_decode_config_short :
    decodePoll refConfig (.command 0x20 [0x03, 0x00, 0x00]) = .error (.payloadLength 3) := by decide
/-- W1 and F3. -/
theorem test_encode_payload :
    encodePayload 0x05 [1#32, 2#32] = [0x05, 0x00, 0x00, 0x00, 0x01, 0x00, 0x00, 0x00, 0x02] ∧
      encodePayload 0x20 [0xDEADBEEF#32] = [0x20, 0xDE, 0xAD, 0xBE, 0xEF] := by decide
/-- W7, C10c, C10d and C10e. -/
theorem test_interval :
    intervalOf 0x01 0x2C = 300#16 ∧ intervalOf 0x03 0xE8 = 1000#16 ∧ intervalOf 0x80 0x00 = 32768#16 ∧
      intervalOf 0xFF 0xFF = 65535#16 ∧ intervalOf 0x12 0x34 = 4660#16 := by decide
/-- A word of the opcode table: the code byte lowest, then the payload in order. -/
theorem test_word_config : decodeWordWith refConfig 40 0x6400010320 = some (.configRising 0x03 0x00 0x64) := by decide
/-- A word shorter than its CONFIG is filled up with zeros. -/
theorem test_word_config_short : decodeWordWith refConfig 24 0x010320 = some (.configRising 0x03 0x00 0x00) := by decide
/-- A placed word is what the next step runs. -/
theorem test_word_runs :
    shows (step (start.withFetchWord 40 0x6400010320)) (fun t => (t.numSlots, t.answers, t.polls)) =
      some (1, [true], []) := by decide

/-! ### Ill-formed terms, one for each check of WellFormed -/

theorem test_illformed_mode_is_recognized : WellFormed refConfig (.configUnrecognized 0x03 0x05 0 0) = false := by decide
theorem test_illformed_code_is_config : WellFormed refConfig (.unknown 0x20 []) = false := by decide
theorem test_illformed_code_is_query : WellFormed refConfig (.unknown 0x21 []) = false := by decide
theorem test_illformed_report_empty : WellFormed refConfig (.report 0x00 []) = false := by decide
theorem test_illformed_report_beyond_capacity : WellFormed refConfig (.report 0x40 [1#32]) = false := by decide
theorem test_illformed_report_count : WellFormed refConfig (.report 0x03 [1#32]) = false := by decide
theorem test_illformed_response_count : WellFormed refConfig (.capabilityResponse 0x05) = false := by decide
theorem test_wellformed_report : WellFormed refConfig (.report 0x20 [1#32]) = true := by decide

/-! ### One step each (95_test_vectors.md) -/

/-- C1. -/
theorem test_config_change :
    shows (exec (.configChange 3 0 0x64) start) (fun t => (slotAt t 0, latchAt t 0, t.numSlots)) =
        some (⟨3, .change, 100, 0, 0⟩, 0, 1) ∧
      shows (exec (.configChange 3 0 0x64) start) (fun t => (bindingAt t 3, lineModeAt t 3, t.answers, t.output)) =
        some (some ⟨0, .change⟩, some .input, [true], []) := by decide
/-- C13: a shared line under REPLACE. -/
theorem test_config_rising_replaces :
    shows (exec (.configRising 3 0 0x64) oneSlot) (fun t => (bindingAt t 3, t.numSlots, latchAt t 0)) =
      some (some ⟨1, .rising⟩, 2, 37) := by decide
/-- C13: a shared line under REFUSE. -/
theorem test_config_rising_refused :
    refusal (exec (.configRising 3 0 0x64) refusing) = some (.lineAlreadyBound 3) := by decide
/-- C3. -/
theorem test_config_falling :
    shows (exec (.configFalling 3 0 0x64) start) (fun t => ((slotAt t 0).mode, lineModeAt t 3, bindingAt t 3)) =
      some (.falling, some .input, some ⟨0, .falling⟩) := by decide
/-- C4. -/
theorem test_config_change_pu :
    shows (exec (.configChangePu 3 0 0x64) start) (fun t => ((slotAt t 0).mode, lineModeAt t 3, bindingAt t 3)) =
      some (.changePu, some .inputPullup, some ⟨0, .change⟩) := by decide
/-- C5. -/
theorem test_config_rising_pu :
    shows (exec (.configRisingPu 3 0 0x64) start) (fun t => ((slotAt t 0).mode, lineModeAt t 3, bindingAt t 3)) =
      some (.risingPu, some .inputPullup, some ⟨0, .rising⟩) := by decide
/-- The resync of P1 step 3: both slots restart, the old latch stays. -/
theorem test_config_falling_pu_resyncs :
    shows (exec (.configFallingPu 7 0 0xFA) oneSlot)
        (fun t => ((slotAt t 0).lastTime, (slotAt t 1).lastTime, latchAt t 0, (slotAt t 1).interval, lineModeAt t 7)) =
      some (150, 150, 37, 250, some .inputPullup) := by decide
/-- C7. -/
theorem test_config_unrecognized :
    shows (exec (.configUnrecognized 3 6 0 0x64) start)
        (fun t => ((slotAt t 0).mode, lineModeAt t 3, bindingAt t 3, t.numSlots, t.answers)) =
      some (.unrecognized, none, none, 1, [true]) := by decide
/-- C16: full, and the mode not examined. -/
theorem test_config_unrecognized_full :
    shows (exec (.configUnrecognized 9 7 0 0x64) full) (fun t => (t.numSlots, t.answers, slotAt t 0)) =
      some (1, [false], slotAt full 0) := by decide
/-- Q2. -/
theorem test_query :
    shows (exec (.query [1, 2, 3]) oneSlot) (fun t => (t.answers, t.output, t.clock, latchAt t 0)) =
      some ([true], [], [150], 37) := by decide
/-- U2. -/
theorem test_unknown :
    shows (exec (.unknown 0x22 [3, 1, 0, 0x64]) start) (fun t => (t.answers, t.diags, t.numSlots)) =
      some ([false], [.unknownCmd 0x22], 0) := by decide
/-- W2 step 3, micro-step 1. -/
theorem test_tick_opens :
    shows (exec .tick oneSlot) (fun t => (t.output, t.tick, t.clock)) =
      some ([0xA0, 0xA1, 0x01], .draining [0], []) := by decide
/-- T2: elapsed equal to the interval is not due. -/
theorem test_tick_equal :
    shows (exec .tick { oneSlot with clock := [100] }) (fun t => (t.output, t.tick, (slotAt t 0).lastTime)) =
      some ([], .idle, 0) := by decide
/-- W2 step 3, the whole TICK. -/
theorem test_tick_whole :
    shows (runSteps 3 { oneSlot with polls := [.tick] })
        (fun t => (t.output, (slotAt t 0).lastTime, (slotAt t 0).lastValue, latchAt t 0, t.tick)) =
      some ([0xA0, 0xA1, 0x01, 0x00, 0x00, 0x00, 0x25, 0xA2], 100, 37, 0, .idle) := by decide
/-- T9. -/
theorem test_tick_skips_a_slot :
    shows (runSteps 4 { threeSlots with polls := [.tick] }) (fun t => (t.output, latchAt t 1)) =
      some ([0xA0, 0xA1, 0x05, 0x00, 0x00, 0x00, 0x01, 0x00, 0x00, 0x00, 0x02, 0xA2], 9) := by decide
/-- T4: across the clock's wrap. -/
theorem test_due_across_the_wrap :
    isDue ⟨0, .change, 0x20, 0xFFFFFFF0, 0⟩ 0x11 = true ∧ isDue ⟨0, .change, 0x20, 0xFFFFFFF0, 0⟩ 0x10 = false := by
  decide
/-- E1 to E6: each edge kind in each direction. -/
theorem test_edge :
    shows (exec (.edge 3 .rise) (slotOf .change .change)) (fun t => latchAt t 0) = some 38 ∧
      shows (exec (.edge 3 .fall) (slotOf .change .change)) (fun t => latchAt t 0) = some 38 ∧
      shows (exec (.edge 3 .rise) oneSlot) (fun t => latchAt t 0) = some 38 ∧
      shows (exec (.edge 3 .fall) oneSlot) (fun t => latchAt t 0) = some 37 ∧
      shows (exec (.edge 3 .fall) (slotOf .falling .falling)) (fun t => latchAt t 0) = some 38 ∧
      shows (exec (.edge 3 .rise) (slotOf .falling .falling)) (fun t => latchAt t 0) = some 37 := by decide
/-- E8. -/
theorem test_edge_wraps :
    shows (exec (.edge 3 .rise) { oneSlot with latches := [0xFFFFFFFF, 0, 0, 0, 0, 0] }) (fun t => latchAt t 0) =
      some 0 := by decide
/-- R1 on one slot. -/
theorem test_reset :
    shows (exec .reset oneSlot) (fun t => (bindingAt t 3, t.numSlots, latchAt t 0, lineModeAt t 3)) =
      some (none, 0, 37, some .input) := by decide
/-- P1 and P4 of the vectors. -/
theorem test_pin_mode :
    shows (exec (.pinMode 3 0x0C) oneSlot) (fun t => (lineModeAt t 3, bindingAt t 3, t.answers)) =
      some (some .input, some ⟨0, .rising⟩, [true]) := by decide
/-- P2 and P3 of the vectors. -/
theorem test_pin_mode_rejected :
    shows (exec (.pinMode 9 0x0C) start) (fun t => (lineModeAt t 9, t.answers)) = some (none, [false]) ∧
      shows (exec (.pinMode 2 0x0D) start) (fun t => (lineModeAt t 2, t.answers)) = some (none, [false]) := by decide
/-- K1. -/
theorem test_capability :
    shows (exec (.capability 2) start) (fun t => (t.output, t.answers)) = some ([0x0C, 0x06], [true]) := by decide
/-- K2. -/
theorem test_capability_incapable :
    shows (exec (.capability 9) start) (fun t => (t.output, t.answers)) = some ([], [false]) := by decide
/-- F1 within its markers. -/
theorem test_report :
    shows (exec (.report 0x01 [37]) start) (fun t => t.output) = some [0xA0, 0xA1, 0x01, 0x00, 0x00, 0x00, 0x25, 0xA2] := by
  decide
theorem test_report_malformed : refusal (exec (.report 0x03 [37]) start) = some .malformedMessage := by decide
/-- K1, the response by itself. -/
theorem test_capability_response :
    shows (exec (.capabilityResponse 6) start) (fun t => (t.output, t.answers)) = some ([0x0C, 0x06], []) := by decide
/-- C17: a line that cannot interrupt never delivers its edge. -/
theorem test_no_interrupt_no_edge :
    shows (step { writeBinding 9 (some ⟨0, .change⟩) oneSlot with edges := [⟨9, .rise⟩] })
      (fun t => (latchAt t 0, t.edges)) = some (37, []) := by decide
/-- T12 in both orders: the value reported and the latch left. -/
theorem test_race :
    shows (runSteps 2 { draining with edges := [⟨3, .rise⟩], turns := [.edgeAgent, .pollLoop] })
        (fun t => ((slotAt t 0).lastValue, latchAt t 0)) = some (38, 0) ∧
      shows (runSteps 2 { draining with edges := [⟨3, .rise⟩], turns := [.pollLoop, .edgeAgent] })
        (fun t => ((slotAt t 0).lastValue, latchAt t 0)) = some (37, 1) := by decide
/-- R151(c): the host presents an operation inside a TICK. -/
theorem test_presented_inside_a_tick :
    refusal (step { draining with polls := [.reset], turns := [.host] }) = some .tickIncomplete := by decide

/-! ### Witnesses: a state and operands that meet the hypotheses of each statement, for each of its clauses -/

theorem slotOf_inv {m : TriggerMode} {k : EdgeKind} (hk : edgeKindOf m = some k) : Inv (slotOf m k) := by
  refine ⟨⟨rfl, rfl, show 1 ≤ 6 by decide⟩, ?_, ?_⟩
  · intro line b hb
    have h : bindingAt (slotOf m k) line = if 3#8 = line then some ⟨0, k⟩ else none := by
      unfold slotOf
      rw [bindingAt_setInputMode, bindingAt_writeBinding]
      congr 1
      simp [bindingAt, State.powerOn]
    rw [h] at hb
    split at hb
    · subst line
      cases hb
      exact ⟨Nat.zero_lt_one, rfl, hk, by simp [slotOf, lineModeAt_setInputMode]⟩
    · cases hb
  · intro due h
    cases h

theorem oneSlot_inv : Inv oneSlot := slotOf_inv rfl

theorem draining_inv : Inv draining := by
  refine ⟨oneSlot_inv.sized, oneSlot_inv.bound, ?_⟩
  intro due h
  cases h
  decide

theorem start_inv : Inv start := by
  refine ⟨by decide, ?_, ?_⟩
  · intro line b hb
    simp [bindingAt, start, State.powerOn] at hb
  · intro due h
    cases h

theorem full_inv : Inv full := by
  refine ⟨by decide, ?_, ?_⟩
  · intro line b hb
    simp [bindingAt, full, State.powerOn] at hb
  · intro due h
    cases h

theorem refusing_inv : Inv refusing := ⟨oneSlot_inv.sized, oneSlot_inv.bound, oneSlot_inv.ticks⟩

/-- EncodedOperationsDecodeBack: one well-formed operation for each check, at the edge of its range. -/
theorem test_witness_wellformed :
    WellFormed refConfig (.configUnrecognized 3 6 0 0) = true ∧ WellFormed refConfig (.unknown 0x22 []) = true ∧
      WellFormed refConfig (.report 0x3F [1, 2, 3, 4, 5, 6]) = true ∧
      WellFormed refConfig (.capabilityResponse 6) = true := by decide

/-- DecodedOperationsAreWellFormed. -/
theorem test_witness_decodes : decode refConfig (.poll (.command 0x20 [3, 6, 0, 0])) = .ok (.configUnrecognized 3 6 0 0) := by
  decide

/-- TriggerModeTable, either side of each boundary of the table. -/
theorem test_witness_mode_boundaries :
    decodeMode 0x00 = .change ∧ decodeMode 0x05 = .fallingPu ∧ decodeMode 0x06 = .unrecognized ∧
      decodeMode 0xFF = .unrecognized := by decide

/-- ReportPayloadRoundTrip, for no bit, some bits and all bits. -/
theorem test_witness_value_counts :
    ([] : List Word).length = (maskSlots 0x00).length ∧ [1#32, 2#32].length = (maskSlots 0x05).length ∧
      (List.replicate 8 0#32).length = (maskSlots 0xFF).length := by decide

/-- WrongPayloadLengthIsRefused, one byte short and one too many, by whoever's turn. -/
theorem test_witness_payload_length :
    (OnlyPollLoop { start with polls := [.command 0x20 [1, 2, 3]] } ∧ start.tick = .idle ∧ start.cfg.cmdConfig = 0x20 ∧
        [1#8, 2#8, 3#8].length ≠ 4 ∧ [1#8, 2#8, 3#8, 4#8, 5#8].length ≠ 4) ∧
      ({ start with polls := [.command 0x20 [1, 2, 3]], turns := [.pollLoop] } : State).turns = [.pollLoop] ∧
      ({ draining with polls := [.command 0x20 [1, 2, 3]], turns := [.host] } : State).turns = [.host] := by
  simp [OnlyPollLoop, start, State.powerOn, refConfig]

/-- StepRunsThePresentedOperation, by whoever's turn, and TickReportsEveryDueSlot. -/
theorem test_witness_presented :
    OnlyPollLoop { oneSlot with polls := [.tick] } ∧ oneSlot.tick = .idle ∧ decodePoll oneSlot.cfg .tick = .ok .tick ∧
      ({ oneSlot with polls := [.tick], turns := [.pollLoop] } : State).turns = [.pollLoop] ∧
      ({ draining with polls := [.tick], turns := [.host] } : State).turns = [.host] :=
  ⟨⟨rfl, rfl⟩, rfl, rfl, rfl, rfl⟩

/-- StepRunsThePendingEdge, by either kind of turn, a line that can interrupt and one that cannot. -/
theorem test_witness_pending_edge :
    (oneSlot.turns = [] ∧ pollReady { oneSlot with edges := [⟨3, .rise⟩] } = false) ∧
      ({ oneSlot with turns := [.edgeAgent], edges := [⟨3, .rise⟩] } : State).turns = [.edgeAgent] ∧
      oneSlot.cfg.irqCapable 3 = true ∧ oneSlot.cfg.irqCapable 9 = false := by decide

/-- StepContinuesTheTick, by either kind of turn, and IncompleteTickRefusesOperations. -/
theorem test_witness_incomplete_tick :
    (draining.turns = [] ∧ draining.edges = []) ∧
      ({ draining with turns := [.pollLoop] } : State).turns = [.pollLoop] ∧ draining.tick = .draining [0] ∧
      Instr.reset.port ≠ .edge ∧ (Instr.report 0x01 [37]).port ≠ .edge := by decide

/-- NothingPresentedNothingHappens. -/
theorem test_witness_nothing_presented : OnlyPollLoop start ∧ start.tick = .idle ∧ start.polls = [] := ⟨⟨rfl, rfl⟩, rfl, rfl⟩

/-- EitherAgentMayMove. -/
theorem test_witness_both_ready :
    ({ draining with edges := [⟨3, .rise⟩] } : State).turns = [] ∧
      pollReady { draining with edges := [⟨3, .rise⟩] } = true ∧
      ({ draining with edges := [⟨3, .rise⟩] } : State).edges ≠ [] := by decide

/-- EdgeRacingADrainIsCountedOnce, the edge first. -/
theorem test_witness_race_edge_first :
    Inv { draining with edges := [⟨3, .rise⟩], turns := [.edgeAgent, .pollLoop] } ∧ draining.tick = .draining [0] ∧
      draining.cfg.irqCapable 3 = true ∧ countedSlot draining 3 .rise = some 0 :=
  ⟨⟨draining_inv.sized, draining_inv.bound, draining_inv.ticks⟩, by decide⟩

/-- EdgeRacingADrainIsCountedOnce, the drain first. -/
theorem test_witness_race_drain_first :
    Inv { draining with edges := [⟨3, .rise⟩], turns := [.pollLoop, .edgeAgent] } ∧
      countedSlot { draining with edges := [⟨3, .rise⟩], turns := [.pollLoop, .edgeAgent] } 3 .rise = some 0 :=
  ⟨⟨draining_inv.sized, draining_inv.bound, draining_inv.ticks⟩, by decide⟩

/-- EdgeCountsOnItsSlot: slot 0 counts, slot 1 does not, and the other direction counts on none. -/
theorem test_witness_edge :
    Inv oneSlot ∧ (bindingAt oneSlot 3 = some ⟨0, .rising⟩ ∧ qualifies .rising .rise = true) ∧
      countedSlot oneSlot 3 .rise ≠ some 1 ∧ countedSlot oneSlot 3 .fall = none := ⟨oneSlot_inv, by decide⟩

/-- EdgeKindsCountTheirDirections: a line bound for each kind. -/
theorem test_witness_edge_kinds :
    (Inv (slotOf .change .change) ∧ bindingAt (slotOf .change .change) 3 = some ⟨0, .change⟩) ∧
      (Inv oneSlot ∧ bindingAt oneSlot 3 = some ⟨0, .rising⟩) ∧
      Inv (slotOf .falling .falling) ∧ bindingAt (slotOf .falling .falling) 3 = some ⟨0, .falling⟩ :=
  ⟨⟨slotOf_inv rfl, by decide⟩, ⟨oneSlot_inv, by decide⟩, slotOf_inv rfl, by decide⟩

/-- ClockSampleUsesUpOneReading: a reading listed, and none. -/
theorem test_witness_clock : oneSlot.clock = [150#32] ∧ draining.clock = [] := by decide

/-- EdgeWithoutEffect: an unbound line, and a direction the bound kind does not count. -/
theorem test_witness_edge_without_effect :
    bindingAt oneSlot 4 = none ∧ bindingAt oneSlot 3 = some ⟨0, .rising⟩ ∧ qualifies .rising .fall = false := by decide

/-- LatchWrapsToZero. -/
theorem test_witness_latch_at_top :
    Inv { oneSlot with latches := [0xFFFFFFFF, 0, 0, 0, 0, 0] } ∧
      countedSlot { oneSlot with latches := [0xFFFFFFFF, 0, 0, 0, 0, 0] } 3 .rise = some 0 ∧
      latchAt { oneSlot with latches := [0xFFFFFFFF, 0, 0, 0, 0, 0] } 0 = 0xFFFFFFFF#32 :=
  ⟨⟨by decide, oneSlot_inv.bound, oneSlot_inv.ticks⟩, by decide⟩

/-- EdgesCommute. -/
theorem test_witness_permuted_edges :
    ([⟨3, .rise⟩, ⟨4, .fall⟩] : List EdgeEvent).Perm [⟨4, .fall⟩, ⟨3, .rise⟩] := by decide

/-- ConfigOnAFullTable, a recognized mode and an unrecognized one. -/
theorem test_witness_full_table :
    (Instr.configChange 9 0 0x64).configOperands = some (9, .change, 0, 0x64) ∧
      (Instr.configUnrecognized 9 7 0 0x64).configOperands = some (9, .unrecognized, 0, 0x64) ∧ full.tick = .idle ∧
      full.numSlots = full.cfg.maxSlots := by decide

/-- ConfigAllocatesAndArms on an unbound line under REFUSE and on a bound one under REPLACE; slot 0 lies below the new slot
and slot 2 above it. -/
theorem test_witness_config_arms :
    ((Instr.configRising 4 0 0x64).configOperands = some (4, .rising, 0, 0x64) ∧ edgeKindOf .rising = some .rising ∧
        inputModeOf .rising = some .input ∧ Inv refusing ∧ refusing.tick = .idle ∧
        refusing.numSlots < refusing.cfg.maxSlots ∧ bindingAt refusing 4 = none) ∧
      (Inv oneSlot ∧ oneSlot.tick = .idle ∧ oneSlot.numSlots < oneSlot.cfg.maxSlots ∧ bindingAt oneSlot 3 ≠ none ∧
        oneSlot.cfg.dupLine = .replace ∧ 0 < oneSlot.numSlots ∧ oneSlot.numSlots < 2) :=
  ⟨⟨by decide, by decide, by decide, refusing_inv, by decide⟩, oneSlot_inv, by decide⟩

/-- ConfigUnrecognizedArmsNothing. -/
theorem test_witness_config_unrecognized :
    Inv oneSlot ∧ oneSlot.tick = .idle ∧ oneSlot.numSlots < oneSlot.cfg.maxSlots := ⟨oneSlot_inv, by decide⟩

/-- ConfigRefusesABoundLine. -/
theorem test_witness_config_refused :
    (Instr.configRising 3 0 0x64).configOperands = some (3, .rising, 0, 0x64) ∧ TriggerMode.rising ≠ .unrecognized ∧
      refusing.tick = .idle ∧ refusing.numSlots ≠ refusing.cfg.maxSlots ∧ refusing.cfg.dupLine = .refuse ∧
      bindingAt refusing 3 = some ⟨0, .rising⟩ := by decide

/-- ConfigsAllocateDensely under REPLACE, two CONFIGs of one line. -/
theorem test_witness_dense_replace :
    Inv start ∧ start.tick = .idle ∧ start.numSlots = 0 ∧
      [Instr.configChange 3 0 0, Instr.configRising 3 0 0].length ≤ start.cfg.maxSlots ∧
      (∀ i ∈ [Instr.configChange 3 0 0, Instr.configRising 3 0 0], i.configOperands ≠ none) ∧
      start.cfg.dupLine = .replace := ⟨start_inv, by decide⟩

/-- ConfigsAllocateDensely under REFUSE: two recognized CONFIGs of different unbound lines, two unrecognized ones that
repeat a line, as many as the table of four slots holds. -/
theorem test_witness_dense_refuse :
    let c : Config := { refuseConfig with maxSlots := 4, maxSlots_pos := by decide, maxSlots_le := by decide }
    let s : State := { State.powerOn c with clock := [0] }
    let ops : List Instr :=
      [.configChange 3 0 0, .configUnrecognized 3 6 0 0, .configUnrecognized 3 7 0 0, .configFallingPu 4 0 0]
    Inv s ∧ s.tick = .idle ∧ s.numSlots = 0 ∧ ops.length = s.cfg.maxSlots ∧ (∀ i ∈ ops, i.configOperands ≠ none) ∧
      (ops.filterMap armedLine).Nodup ∧ ∀ line ∈ ops.filterMap armedLine, bindingAt s line = none := by
  refine ⟨⟨by decide, ?_, ?_⟩, by decide, by decide, by decide, by decide, by decide, ?_⟩
  · intro line b hb
    simp [bindingAt, State.powerOn] at hb
  · intro due h
    cases h
  · intro line _
    simp [bindingAt, State.powerOn]

/-- QueryIsInert, UnknownCommandIsRejected, PinModeSetsInput and CapabilityAdvertisesTheCapacity, whose results have two
cases: the counting mode or not, a capable line or not. -/
theorem test_witness_idle :
    oneSlot.tick = .idle ∧ (0x0C#8 = oneSlot.cfg.countMode ∧ oneSlot.cfg.irqCapable 3 = true) ∧
      0x0D#8 ≠ oneSlot.cfg.countMode ∧ oneSlot.cfg.irqCapable 9 = false := by decide

/-- TickWithoutSlotsDoesNothing, and the first case of TickReportsEveryDueSlot. -/
theorem test_witness_tick_no_slots : Inv start ∧ start.tick = .idle ∧ start.numSlots = 0 := ⟨start_inv, by decide⟩

/-- TickWithNothingDueOnlySamples at the last reading that is not due, and the second case of TickReportsEveryDueSlot. -/
theorem test_witness_tick_nothing_due :
    let s : State := { oneSlot with clock := [100] }
    Inv s ∧ s.tick = .idle ∧ s.numSlots ≠ 0 ∧
      (∀ i, i < s.numSlots → ((clockReading s).toNat + 4294967296 - (slotAt s i).lastTime.toNat) % 4294967296 ≤
        (slotAt s i).interval.toNat) ∧ dueSlots s (clockReading s) = [] :=
  ⟨⟨oneSlot_inv.sized, oneSlot_inv.bound, oneSlot_inv.ticks⟩, by decide⟩

/-- TickOpensAFrame at the first reading that is due, the third case of TickReportsEveryDueSlot, and FrameLengths. -/
theorem test_witness_tick_due :
    let s : State := { oneSlot with clock := [101] }
    Inv s ∧ s.tick = .idle ∧ (0 < s.numSlots ∧ isDue (slotAt s 0) (clockReading s) = true) ∧
      dueSlots s (clockReading s) ≠ [] :=
  ⟨⟨oneSlot_inv.sized, oneSlot_inv.bound, oneSlot_inv.ticks⟩, by decide⟩

/-- DrainMicroStepReportsTheLatch. -/
theorem test_witness_drain : Inv draining ∧ draining.tick = .draining [0] := ⟨draining_inv, rfl⟩

/-- CloseMicroStepEndsTheFrame. -/
theorem test_witness_close : ({ oneSlot with tick := .draining [] } : State).tick = .draining [] := rfl

/-- CatchUpSlotStaysDue, one millisecond past twice the interval. -/
theorem test_witness_catch_up :
    Inv draining ∧ draining.tick = .draining [0] ∧
      2 * (slotAt draining 0).interval.toNat < (elapsed (slotAt draining 0) 201).toNat := ⟨draining_inv, by decide⟩

/-- IntervalZeroIsDueOffItsEpoch: a slot of interval zero outside any TICK, and one at its drain that was never armed. -/
theorem test_witness_interval_zero :
    let s : State := { start with
      slots := ⟨3#8, .unrecognized, 0#16, 500#32, 0#32⟩ :: List.replicate 5 blankSlot, numSlots := 1, tick := .draining [0] }
    (slotAt start 3).interval = 0#16 ∧ Inv s ∧ s.tick = .draining [0] ∧ (slotAt s 0).interval = 0#16 := by
  refine ⟨by decide, ⟨by decide, ?_, ?_⟩, by decide⟩
  · intro line b hb
    simp [bindingAt, start, State.powerOn] at hb
  · intro due h
    cases h
    decide

/-- ReportPutsItsFrameOnTheSink and CapabilityResponsePutsTwoBytesOnTheSink. -/
theorem test_witness_messages :
    start.tick = .idle ∧ WellFormed start.cfg (.report 0x05 [1, 2]) = true ∧
      WellFormed start.cfg (.capabilityResponse 6) = true := by decide

/-- MalformedMessagesAreRefused: a mask bit without its value, values without a mask, a count beside the capacity. -/
theorem test_witness_malformed :
    start.tick = .idle ∧ (WellFormed start.cfg (.report 0x03 [37]) = false ∧ 0x03#8 ≠ 0x00#8) ∧
      (WellFormed start.cfg (.report 0x00 [37]) = false ∧ [37#32] ≠ []) ∧ (5#8).toNat ≠ start.cfg.maxSlots ∧
      (7#8).toNat ≠ start.cfg.maxSlots := by decide

/-- ResetDisarmsTheActiveSlots, a line an active slot names and one none names, and ResetSilencesTheMachine. -/
theorem test_witness_reset :
    Inv oneSlot ∧ oneSlot.tick = .idle ∧ (0 < oneSlot.numSlots ∧ (slotAt oneSlot 0).line = 3) ∧
      (∀ i, i < oneSlot.numSlots → (slotAt oneSlot i).line ≠ 4) := ⟨oneSlot_inv, by decide⟩

/-- EveryStepKeepsTheInvariant, NoStepWritesTheParameters, PortTracesOnlyGrow and GridPointsMoveByIntervalOrResync. -/
theorem test_witness_step :
    Inv { oneSlot with polls := [.tick] } ∧ (shows (step { oneSlot with polls := [.tick] }) fun t => t.tick) =
      some (.draining [0]) ∧ 0 < oneSlot.numSlots :=
  ⟨⟨oneSlot_inv.sized, oneSlot_inv.bound, oneSlot_inv.ticks⟩, by decide⟩

/-- OnlyConfigAndResetMoveTheCount: RESET, a CONFIG that answers true, one that answers false, another operation. -/
theorem test_witness_count :
    Inv oneSlot ∧ Inv start ∧ Inv full ∧ (shows (exec .reset oneSlot) fun t => t.numSlots) = some 0 ∧
      (Instr.configRising 3 0 0).configOperands ≠ none ∧
      (shows (exec (.configRising 3 0 0) start) fun t => t.answers) = some (start.answers ++ [true]) ∧
      (shows (exec (.configRising 3 0 0) full) fun t => t.answers) = some (full.answers ++ [false]) ∧
      (shows (exec .tick oneSlot) fun t => t.numSlots) = some 1 ∧ Instr.tick.configOperands = none :=
  ⟨oneSlot_inv, start_inv, full_inv, by decide⟩

/-- OnlyTickAndCapabilityEmit and OnlyConfigAndResetMoveTheCount. -/
theorem test_witness_silent_operation :
    Inv oneSlot ∧ (shows (exec .reset oneSlot) fun t => t.output) = some [] ∧ Instr.reset.port ≠ .tick ∧
      Instr.reset.port ≠ .capability ∧ Instr.reset.port ≠ .output := ⟨oneSlot_inv, by decide⟩

/-- AnswersByPort, an operation that answers and one that does not. -/
theorem test_witness_answers :
    ((shows (exec (.query []) start) fun t => t.answers) = some [true] ∧ (Instr.query []).port = .command) ∧
      (shows (exec .reset start) fun t => t.answers) = some [] ∧ Instr.reset.port = .reset := by decide

/-- NoEdgeIsLostOrCountedTwice: slot 0 stays active over a drain and the end of the frame. -/
theorem test_witness_run :
    Inv draining ∧ (shows (runSteps 2 draining) fun t => (t.numSlots, t.tick)) = some (1, .idle) ∧
      (shows (runSteps 1 draining) fun t => t.numSlots) = some 1 ∧ 0 < draining.numSlots := ⟨draining_inv, by decide⟩

end Sys2Proof.Tests
end

section
/-! The scope statements (00_scope.md): no step writes the parameters, and the machine rests when nothing is presented. -/

namespace Sys2Proof.Machine

/-! ### The parameters -/

theorem armSlot_cfg {i : Nat} {line : Byte} {m : TriggerMode} {s t : State} (h : armSlot i line m s = some t) :
    t.cfg = s.cfg := by
  obtain ⟨-, rfl⟩ | ⟨_, _, -, -, -, rfl⟩ := armSlot_some h
  · rfl
  · simp

@[simp] theorem openFrame_cfg (s : State) : (openFrame s).cfg = s.cfg := by
  obtain ⟨-, h⟩ | ⟨-, h⟩ := openFrame_cases s <;> simp [h]

@[simp] theorem tickMicroStep_cfg (s : State) : (tickMicroStep s).cfg = s.cfg := by
  obtain ⟨-, h⟩ | ⟨-, h⟩ | ⟨_, _, -, h⟩ := tickMicroStep_cases s <;> simp [h]

/-- An operation that completes leaves the parameters: an allocating CONFIG and TICK by their own lemmas, the others by the
field lemmas of the writes they are made of. -/
theorem Completes.cfg_eq {i : Instr} {s t : State} (h : Completes i s t) : t.cfg = s.cfg := by
  cases h with
  | configAllocated _ _ _ armed => simp [armSlot_cfg armed]
  | tickOpen => exact openFrame_cfg s
  | tickNone | edgeNone | reportNone => rfl
  | configFull | query | unknown | edgeCounts | reset | pinModeOk | pinModeRejected | capabilityOk
  | capabilityRejected | report | capabilityResponse => simp

theorem exec_cfg {i : Instr} {s t : State} (h : exec i s = .next t) : t.cfg = s.cfg :=
  (exec_completes h).cfg_eq

/-- The agent's part of a step leaves the parameters of the state `u` with the turn taken. -/
theorem StepDoes.cfg_eq {s u t : State} (h : StepDoes s u t) : t.cfg = u.cfg := by
  cases h with
  | rests => rfl
  | microStep => exact tickMicroStep_cfg u
  | noInterrupt => exact setEdges_cfg _ u
  | operation _ _ completes => exact (exec_cfg completes).trans (setPolls_cfg _ u)
  | interrupt _ _ _ completes => exact (exec_cfg completes).trans (setEdges_cfg _ u)

/-- Settles O48: by the inversion of `step`, the turn taken and then the agent's part leave the parameters (R8, R41). -/
theorem noStepWritesTheParameters : Obligations.NoStepWritesTheParameters := by
  intro s t h
  calc t.cfg = (nextTurn s).2.cfg := (step_does h).cfg_eq
    _ = s.cfg := nextTurn_cfg s

/-! ### Rest -/

theorem pollReady_of_idle {s : State} (ht : s.tick = .idle) (hp : s.polls = []) : pollReady s = false := by
  simp [pollReady, tickBusy, ht, hp]

/-- Nobody can move, so the step changes nothing (log 4). -/
theorem step_none {s : State} (h : OnlyPollLoop s) (hp : pollReady s = false) : step s = .next s := by
  obtain ⟨hturns, hedges⟩ := h
  simp only [step, nextTurn_none hturns hp hedges, runTurn]

/-- Settles O12: with no TICK incomplete and nothing presented neither agent is ready, so the step rests. -/
theorem nothingPresentedNothingHappens : Obligations.NothingPresentedNothingHappens :=
  fun _ h ht hp => step_none h (pollReady_of_idle ht hp)

end Sys2Proof.Machine
end

section
/-! A clock sample, the power-on state, the turn that runs a presented operation, and the refusal of CONFIG (10_state.md). -/

namespace Sys2Proof.Machine

/-! ### Samples and the power-on state -/

/-- Settles O56: the two cases of a sample are the two shapes of the list of readings (log 3). -/
theorem clockSampleUsesUpOneReading : Obligations.ClockSampleUsesUpOneReading := by
  refine ⟨fun s t ts h => ?_, fun s h => ?_⟩
  · simp [clockReading, afterSample, drawsAfterSample, setClock, h]
  · simp [clockReading, afterSample, drawsAfterSample, countDraw, h]

@[simp] theorem bindingAt_powerOn (c : Config) (line : Byte) : bindingAt (State.powerOn c) line = none := by
  simp [bindingAt, State.powerOn]

theorem powerOn_inv (c : Config) : Inv (State.powerOn c) where
  sized := ⟨List.length_replicate, List.length_replicate, Nat.zero_le _⟩
  bound := fun line b h => by simp at h
  ticks := fun due h => by cases h

/-- Settles O46: it holds under every choice of the parameters. -/
theorem powerOnMeetsTheInvariant : Obligations.PowerOnMeetsTheInvariant := powerOn_inv Config.machine

/-! ### The turn that runs a presented operation -/

/-- Settles O9: in each turn case the step comes down to `runPresented`, which decodes the oldest transaction. -/
theorem stepRunsThePresentedOperation : Obligations.StepRunsThePresentedOperation := by
  intro s r rest i hp hd
  refine ⟨fun ho ht => ?_, fun ts hs ht => ?_, fun ts hs => ?_⟩
  · rw [step_poll ho (pollReady_of_polls hp), runPollLoop_idle ht, runPresented_ok hp hd]
    rfl
  · rw [step_turn hs, runTurn, runPollLoop_idle (s := setTurns ts s) ht, runPresented_ok (s := setTurns ts s) hp hd]
    rfl
  · rw [step_turn hs, runTurn, runPresented_ok (s := setTurns ts s) hp hd]
    rfl

/-! ### The refusal of CONFIG -/

/-- A recognized mode has an edge kind and an input mode (R27). -/
theorem edgeKindOf_inputModeOf_of_recognized {m : TriggerMode} (hm : m ≠ .unrecognized) :
    ∃ k im, edgeKindOf m = some k ∧ inputModeOf m = some im := by
  obtain ⟨k, hk⟩ := Option.ne_none_iff_exists'.mp (mt edgeKindOf_none.mp hm)
  obtain ⟨im, him⟩ := Option.ne_none_iff_exists'.mp (mt inputModeOf_none.mp hm)
  exact ⟨k, im, hk, him⟩

/-- Settles O24: allocating leaves the line bound, so arming it is refused (R36, R96). -/
theorem configRefusesABoundLine : Obligations.ConfigRefusesABoundLine := by
  intro s i line high low m b hc hm ht hfree hp hb
  obtain ⟨k, im, hk, him⟩ := edgeKindOf_inputModeOf_of_recognized hm
  have harm : armSlot s.numSlots line m (allocate s.numSlots line m (intervalOf high low) s) = none := by
    rw [armSlot_recognized hk him]
    exact arm_refused (b := b) (by simpa using hb) (by simpa using hp) k _
  rw [exec_config hc, whenIdle_of_idle ht]
  simp only [configure, hfree, if_false, harm]

end Sys2Proof.Machine
end

section
/-! The invariant of the machine, kept by every step (10_state.md R30, R31, R36; 41_config.md R96; 42_report.md R116;
43_capability_reset.md R140). -/

namespace Sys2Proof.Machine

/-- Step 4 of CONFIG writes the bindings and the input modes alone (R99). -/
theorem armSlot_frame {i : Nat} {line : Byte} {m : TriggerMode} {s t : State} (h : armSlot i line m s = some t) :
    t = { s with bindings := t.bindings, lineModes := t.lineModes } := by
  obtain ⟨-, rfl⟩ | ⟨_, _, -, -, -, rfl⟩ := armSlot_some h <;> rfl

/-! ### What is kept of the tables -/

/-- Two slots with the line, mode and interval of one CONFIG, whatever their time and value. -/
def SameRole (x y : Slot) : Prop := x.line = y.line ∧ x.mode = y.mode ∧ x.interval = y.interval

theorem SameRole.of_eq {x y : Slot} (h : x = y) : SameRole x y := h ▸ ⟨rfl, rfl, rfl⟩

theorem SameRole.trans {x y z : Slot} (h : SameRole x y) (h' : SameRole y z) : SameRole x z :=
  ⟨h.1.trans h'.1, h.2.1.trans h'.2.1, h.2.2.trans h'.2.2⟩

theorem slotAt_activate_sameRole (i : Nat) (s : State) (j : Nat) : SameRole (slotAt (activate i s) j) (slotAt s j) := by
  rw [slotAt_activate]
  split <;> exact ⟨rfl, rfl, rfl⟩

theorem slotAt_drainSlot_sameRole (i : Nat) (s : State) (j : Nat) : SameRole (slotAt (drainSlot i s) j) (slotAt s j) := by
  rw [slotAt_drainSlot]
  split
  · next h => obtain ⟨rfl, -⟩ := h; exact ⟨rfl, rfl, rfl⟩
  · exact ⟨rfl, rfl, rfl⟩

/-- `t` has the tables of `s` in all that the invariant reads: only latch values, times and last values may differ, and a
line whose input mode was set may have it set to another. -/
structure KeepsTables (s t : State) : Prop where
  cfg : t.cfg = s.cfg
  latches : t.latches.length = s.latches.length
  slots : t.slots.length = s.slots.length
  count : t.numSlots = s.numSlots
  role : ∀ j, SameRole (slotAt t j) (slotAt s j)
  binding : ∀ line, bindingAt t line = bindingAt s line
  lineMode : ∀ line, lineModeAt s line ≠ none → lineModeAt t line ≠ none

theorem KeepsTables.refl (s : State) : KeepsTables s s := by constructor <;> simp [SameRole]

theorem KeepsTables.tablesSized {s t : State} (h : KeepsTables s t) (hs : TablesSized s) : TablesSized t := by
  simpa only [TablesSized, h.cfg, h.latches, h.slots, h.count] using hs

theorem KeepsTables.bindingsCoherent {s t : State} (h : KeepsTables s t) (hs : BindingsCoherent s) :
    BindingsCoherent t := by
  intro line b hb
  obtain ⟨hactive, hline, hkind, hmode⟩ := hs line b ((h.binding line).symm.trans hb)
  obtain ⟨hl, hm, -⟩ := h.role b.slot
  exact ⟨h.count ▸ hactive, hl.trans hline, hm ▸ hkind, h.lineMode line hmode⟩

/-- Where the tables are kept, what is left of the invariant is where the TICK stands. -/
theorem KeepsTables.inv {s t : State} (h : KeepsTables s t) (hs : Inv s) (ht : TickCoherent t) : Inv t :=
  ⟨h.tablesSized hs.sized, h.bindingsCoherent hs.bound, ht⟩

theorem tickCoherent_of_idle {s : State} (h : s.tick = .idle) : TickCoherent s := by
  intro due hd
  rw [h] at hd
  cases hd

theorem TickCoherent.congr {s t : State} (h : TickCoherent s) (ht : t.tick = s.tick) (hn : t.numSlots = s.numSlots) :
    TickCoherent t := by
  intro due hd
  rw [hn]
  exact h due (ht.symm.trans hd)

/-! ### The invariant through TICK, taking a turn and taking a transaction -/

theorem openFrame_keepsTables (s : State) : KeepsTables s (openFrame s) := by
  obtain ⟨-, h⟩ | ⟨-, h⟩ := openFrame_cases s <;> rw [h] <;> constructor <;> simp [SameRole]

theorem openFrame_tickCoherent {s : State} (h : s.tick = .idle) : TickCoherent (openFrame s) := by
  obtain ⟨-, ho⟩ | ⟨-, ho⟩ := openFrame_cases s <;> rw [ho]
  · exact tickCoherent_of_idle (by simpa using h)
  · rintro due ⟨⟩
    exact ⟨dueSlots_sorted s _, fun i hi => by simpa using (mem_dueSlots.mp hi).1⟩

theorem tickMicroStep_keepsTables (s : State) : KeepsTables s (tickMicroStep s) := by
  obtain ⟨-, h⟩ | ⟨-, h⟩ | ⟨i, rest, -, h⟩ := tickMicroStep_cases s <;> rw [h]
  · exact .refl s
  · constructor <;> simp [SameRole]
  · constructor <;> simp [slotAt_drainSlot_sameRole]

/-- A micro-step takes the head off the due slots left, or ends the TICK. -/
theorem tickMicroStep_tickCoherent {s : State} (hs : TickCoherent s) : TickCoherent (tickMicroStep s) := by
  obtain ⟨-, h⟩ | ⟨-, h⟩ | ⟨i, rest, hd, h⟩ := tickMicroStep_cases s <;> rw [h]
  · exact hs
  · exact tickCoherent_of_idle rfl
  · obtain ⟨hsorted, hactive⟩ := hs _ hd
    rintro due ⟨⟩
    exact ⟨hsorted.of_cons, fun j hj => hactive j (List.mem_cons_of_mem i hj)⟩

theorem tickMicroStep_inv {s : State} (hs : Inv s) : Inv (tickMicroStep s) :=
  (tickMicroStep_keepsTables s).inv hs (tickMicroStep_tickCoherent hs.ticks)

theorem setPolls_inv {s : State} (hs : Inv s) (rs : List PollRequest) : Inv (setPolls rs s) :=
  ⟨hs.sized, hs.bound, hs.ticks⟩

theorem setEdges_inv {s : State} (hs : Inv s) (es : List EdgeEvent) : Inv (setEdges es s) :=
  ⟨hs.sized, hs.bound, hs.ticks⟩

theorem nextTurn_inv {s : State} (hs : Inv s) : Inv (nextTurn s).2 := by
  rw [nextTurn_frame]
  exact ⟨hs.sized, hs.bound, hs.ticks⟩

/-! ### The invariant through RESET -/

theorem line_mem_activeLines {s : State} {i : Nat} (hi : i < s.numSlots) (hl : i < s.slots.length) :
    (slotAt s i).line ∈ activeLines s := by
  rw [slotAt_eq_getElem hl]
  exact List.mem_map_of_mem (List.mem_iff_getElem.mpr ⟨i, by simp [hi, hl], by simp⟩)

/-- Under the invariant every bound line is that of an active slot, so RESET unbinds them all (R140). -/
theorem bindingAt_disarmAll_activeLines {s : State} (hs : Inv s) (line : Byte) :
    bindingAt (disarmAll (activeLines s) s) line = none := by
  rw [bindingAt_disarmAll]
  split
  · rfl
  · next hnot =>
    by_contra hb
    obtain ⟨b, hb⟩ := Option.ne_none_iff_exists'.mp hb
    obtain ⟨hactive, hline, -, -⟩ := hs.bound line b hb
    obtain ⟨-, hslots, hcount⟩ := hs.sized
    exact hnot (hline ▸ line_mem_activeLines hactive (by omega))

theorem reset_inv {s : State} (hs : Inv s) (idle : s.tick = .idle) :
    Inv (setNumSlots 0 (disarmAll (activeLines s) s)) where
  sized := by
    obtain ⟨hlatches, hslots, -⟩ := hs.sized
    simp [TablesSized, hlatches, hslots]
  bound := fun line b hb => by simp [bindingAt_disarmAll_activeLines hs line] at hb
  ticks := tickCoherent_of_idle (by simpa using idle)

/-! ### The invariant through a CONFIG that allocates -/

/-- A CONFIG `i` on `s` that allocates: `u` is `s` with its first free slot allocated and armed, and the state after is `u`
activated and answered (R96). -/
inductive Allocates (i : Instr) (s : State) : State → Prop where
  | intro {line m high low u} (operands : i.configOperands = some (line, m, high, low))
      (free : s.numSlots ≠ s.cfg.maxSlots)
      (armed : armSlot s.numSlots line m (allocate s.numSlots line m (intervalOf high low) s) = some u) :
      Allocates i s (finish (allocatedOutcome m) (activate s.numSlots u))

theorem Allocates.count {i : Instr} {s t : State} (h : Allocates i s t) : t.numSlots = s.numSlots + 1 := by
  obtain ⟨-, -, -⟩ := h
  simp

theorem Allocates.answers {i : Instr} {s t : State} (h : Allocates i s t) : t.answers = s.answers ++ [true] := by
  obtain ⟨-, -, armed⟩ := h
  rw [armSlot_frame armed]
  simp [outcomeAnswer_allocated]

theorem Allocates.cfg {i : Instr} {s t : State} (h : Allocates i s t) : t.cfg = s.cfg := by
  obtain ⟨-, -, armed⟩ := h
  simp [armSlot_cfg armed]

theorem Allocates.tick {i : Instr} {s t : State} (h : Allocates i s t) : t.tick = s.tick := by
  obtain ⟨-, -, armed⟩ := h
  rw [armSlot_frame armed]
  simp

theorem Allocates.latches_length {i : Instr} {s t : State} (h : Allocates i s t) :
    t.latches.length = s.latches.length := by
  obtain ⟨-, -, armed⟩ := h
  rw [armSlot_frame armed]
  simp

theorem Allocates.slots_length {i : Instr} {s t : State} (h : Allocates i s t) : t.slots.length = s.slots.length := by
  obtain ⟨-, -, armed⟩ := h
  rw [finish_slots, activate_slots_length, armSlot_frame armed]
  simp

/-- The count was below the capacity. -/
theorem Allocates.room {i : Instr} {s t : State} (h : Allocates i s t) (hs : TablesSized s) :
    s.numSlots < s.cfg.maxSlots := by
  obtain ⟨-, free, -⟩ := h
  obtain ⟨-, -, hcount⟩ := hs
  omega

/-- Up to its time, a slot afterwards is what allocation made of it. -/
theorem slotAt_armed_sameRole {i : Nat} {line : Byte} {m : TriggerMode} {s u : State} (armed : armSlot i line m s = some u)
    (o : OpOutcome) (j : Nat) : SameRole (slotAt (finish o (activate i u)) j) (slotAt s j) :=
  (slotAt_activate_sameRole i u j).trans (.of_eq (slotAt_congr (by rw [armSlot_frame armed]) j))

/-- The new slot holds the operands of the CONFIG (R96). -/
theorem Allocates.new {i : Instr} {s t : State} (h : Allocates i s t) (hs : TablesSized s) {line high low : Byte}
    {m : TriggerMode} (hc : i.configOperands = some (line, m, high, low)) :
    (slotAt t s.numSlots).line = line ∧ (slotAt t s.numSlots).mode = m ∧
      (slotAt t s.numSlots).interval = intervalOf high low := by
  have hn : s.numSlots < s.slots.length := hs.2.1 ▸ h.room hs
  obtain @⟨_, _, _, _, u, operands, -, armed⟩ := h
  cases operands.symm.trans hc
  have hrole := slotAt_armed_sameRole armed (allocatedOutcome m) s.numSlots
  rwa [slotAt_allocate, if_pos ⟨rfl, hn⟩] at hrole

/-- Every other slot keeps its role. -/
theorem Allocates.other {i : Instr} {s t : State} (h : Allocates i s t) {j : Nat} (hj : j ≠ s.numSlots) :
    SameRole (slotAt t j) (slotAt s j) := by
  obtain @⟨_, m, _, _, u, -, -, armed⟩ := h
  have hrole := slotAt_armed_sameRole armed (allocatedOutcome m) j
  rwa [slotAt_allocate, if_neg (fun e => hj e.1.symm)] at hrole

/-- All slots active afterwards share one epoch (R100). -/
theorem Allocates.epoch {i : Instr} {s t : State} (h : Allocates i s t) (hs : TablesSized s) :
    ∃ epoch, ∀ j, j < t.numSlots → (slotAt t j).lastTime = epoch := by
  have hlength : t.numSlots ≤ t.slots.length := by
    have := h.room hs
    rw [h.count, h.slots_length, hs.2.1]
    omega
  obtain @⟨_, _, _, _, u, -, -, -⟩ := h
  refine ⟨clockReading u, fun j hj => ?_⟩
  rw [finish_numSlots, activate_numSlots] at hj hlength
  rw [finish_slots, activate_slots_length] at hlength
  rw [slotAt_finish, slotAt_activate, if_pos ⟨hj, by omega⟩]

/-- A binding afterwards is an old one, or that of the line armed to the new slot (R36, R101). -/
theorem Allocates.binding {i : Instr} {s t : State} (h : Allocates i s t) {x : Byte} {b : Binding}
    (hb : bindingAt t x = some b) :
    (bindingAt s x = some b ∧ (lineModeAt s x ≠ none → lineModeAt t x ≠ none)) ∨
      ∃ m high low, i.configOperands = some (x, m, high, low) ∧ b.slot = s.numSlots ∧ edgeKindOf m = some b.kind ∧
        lineModeAt t x ≠ none := by
  obtain ⟨operands, -, armed⟩ := h
  simp only [bindingAt_finish, bindingAt_activate, lineModeAt_finish, lineModeAt_activate] at hb ⊢
  obtain ⟨-, rfl⟩ | ⟨k, im, hk, -, -, rfl⟩ := armSlot_some armed
  · exact .inl ⟨hb, id⟩
  · rw [bindingAt_writeBinding] at hb
    simp only [lineModeAt_writeBinding, lineModeAt_setInputMode]
    split at hb
    · next hx => cases hb; exact .inr ⟨_, _, _, hx ▸ operands, rfl, hk, by simp [hx]⟩
    · next hx => exact .inl ⟨hb, by simp [hx]⟩

theorem Allocates.tablesSized {i : Instr} {s t : State} (h : Allocates i s t) (hs : TablesSized s) : TablesSized t := by
  have hroom := h.room hs
  obtain ⟨hlatches, hslots, -⟩ := hs
  exact ⟨by rw [h.latches_length, h.cfg, hlatches], by rw [h.slots_length, h.cfg, hslots], by rw [h.count, h.cfg]; omega⟩

/-- Old bindings are to other slots than the new one, and the new slot meets what a new binding asks of it. -/
theorem Allocates.bindingsCoherent {i : Instr} {s t : State} (h : Allocates i s t) (hs : Inv s) : BindingsCoherent t := by
  intro x b hb
  rw [h.count]
  obtain ⟨hb, hkeeps⟩ | ⟨m, high, low, hc, hslot, hkind, hmode⟩ := h.binding hb
  · obtain ⟨hactive, hline, hkind, hmode⟩ := hs.bound x b hb
    obtain ⟨hl, hm, -⟩ := h.other (Nat.ne_of_lt hactive)
    exact ⟨Nat.lt_succ_of_lt hactive, hl.trans hline, hm ▸ hkind, hkeeps hmode⟩
  · obtain ⟨hl, hm, -⟩ := h.new hs.sized hc
    rw [hslot]
    exact ⟨Nat.lt_succ_self _, hl, hm.symm ▸ hkind, hmode⟩

theorem Allocates.inv {i : Instr} {s t : State} (h : Allocates i s t) (hs : Inv s) (idle : s.tick = .idle) : Inv t :=
  ⟨h.tablesSized hs.sized, h.bindingsCoherent hs, tickCoherent_of_idle (h.tick.trans idle)⟩

/-! ### The invariant through every operation and every step -/

theorem lineModeAt_setInputMode_ne_none {l x : Byte} {m : InputMode} {s : State} (h : lineModeAt s x ≠ none) :
    lineModeAt (setInputMode l m s) x ≠ none := by
  rw [lineModeAt_setInputMode]
  split
  · exact Option.some_ne_none m
  · exact h

/-- An operation that completes keeps the invariant: RESET and an allocating CONFIG by what they do to the bindings, TICK by
what is due, and the others because they keep the tables and, but for EDGE, need no TICK to be incomplete. -/
theorem Completes.inv {i : Instr} {s t : State} (h : Completes i s t) (hs : Inv s) : Inv t := by
  cases h with
  | configAllocated hc idle free armed => exact (Allocates.intro hc free armed).inv hs idle
  | reset idle => exact reset_inv hs idle
  | tickOpen idle => exact (openFrame_keepsTables s).inv hs (openFrame_tickCoherent idle)
  | tickNone | edgeNone | reportNone => exact hs
  | edgeCounts => exact KeepsTables.inv (by constructor <;> simp [SameRole]) hs (hs.ticks.congr rfl rfl)
  | pinModeOk idle =>
    exact KeepsTables.inv (by constructor <;> simp +contextual [SameRole, lineModeAt_setInputMode_ne_none]) hs
      (tickCoherent_of_idle idle)
  | configFull _ idle | query idle | unknown idle | pinModeRejected idle | capabilityOk idle | capabilityRejected idle
  | report idle | capabilityResponse idle =>
    exact KeepsTables.inv (by constructor <;> simp [SameRole]) hs (tickCoherent_of_idle idle)

theorem exec_inv {i : Instr} {s t : State} (hs : Inv s) (h : exec i s = .next t) : Inv t := (exec_completes h).inv hs

theorem StepDoes.inv {s u t : State} (h : StepDoes s u t) (hu : Inv u) : Inv t := by
  cases h with
  | rests => exact hu
  | microStep => exact tickMicroStep_inv hu
  | noInterrupt => exact setEdges_inv hu _
  | operation _ _ completes => exact exec_inv (setPolls_inv hu _) completes
  | interrupt _ _ _ completes => exact exec_inv (setEdges_inv hu _) completes

/-- Settles O47: taking the turn keeps the invariant, and so does each way a step can end. -/
theorem everyStepKeepsTheInvariant : Obligations.EveryStepKeepsTheInvariant :=
  fun _ _ hs h => (step_does h).inv (nextTurn_inv hs)

end Sys2Proof.Machine
end

section
/-! The traces at the ports: which operations append to them (10_state.md R40, R43). -/

namespace Sys2Proof.Machine

/-! ### The traces at the ports -/

/-- The sink, the answers and the diagnostics of `t` begin with those of `s` (R43, R170). -/
def PortsGrow (s t : State) : Prop := s.output <+: t.output ∧ s.answers <+: t.answers ∧ s.diags <+: t.diags

theorem PortsGrow.refl (s : State) : PortsGrow s s := by simp [PortsGrow]

theorem openFrame_ports (s : State) : PortsGrow s (openFrame s) := by
  obtain ⟨-, h⟩ | ⟨-, h⟩ := openFrame_cases s <;> simp [PortsGrow, h]

theorem tickMicroStep_ports (s : State) : PortsGrow s (tickMicroStep s) := by
  obtain ⟨-, h⟩ | ⟨-, h⟩ | ⟨_, _, -, h⟩ := tickMicroStep_cases s <;> simp [PortsGrow, h]

theorem Completes.portsGrow {i : Instr} {s t : State} (h : Completes i s t) : PortsGrow s t := by
  cases h with
  | configAllocated _ _ _ armed =>
    rw [armSlot_frame armed]
    simp [PortsGrow]
  | tickOpen => exact openFrame_ports s
  | tickNone | edgeNone | reportNone => exact .refl s
  | configFull | query | unknown | edgeCounts | reset | pinModeOk | pinModeRejected | capabilityOk
  | capabilityRejected | report | capabilityResponse => simp [PortsGrow]

theorem StepDoes.portsGrow {s u t : State} (h : StepDoes s u t) : PortsGrow u t := by
  cases h with
  | rests => exact .refl u
  | microStep => exact tickMicroStep_ports u
  | noInterrupt => exact .refl u
  | operation _ _ completes => exact (exec_completes completes).portsGrow
  | interrupt _ _ _ completes => exact (exec_completes completes).portsGrow

/-- Settles O49: taking the turn leaves the three traces, and each way a step can end only appends to them. -/
theorem portTracesOnlyGrow : Obligations.PortTracesOnlyGrow := by
  intro s t h
  simpa [PortsGrow] using (step_does h).portsGrow

theorem port_of_configOperands {i : Instr} (h : i.configOperands ≠ none) : i.port = .command := by
  cases i with
  | configChange | configRising | configFalling | configChangePu | configRisingPu | configFallingPu
  | configUnrecognized => rfl
  | query | unknown | tick | edge | reset | pinMode | capability | report | capabilityResponse => exact absurd rfl h

/-- Settles O51: by the ways an operation can complete, only those of the three answering ports end in `finish`. -/
theorem answersByPort : Obligations.AnswersByPort := by
  intro s t i h
  cases exec_completes h with
  | configFull hc => simp [port_of_configOperands (i := i) (by simp [hc])]
  | configAllocated hc _ _ armed =>
    rw [armSlot_frame armed]
    simp [port_of_configOperands (i := i) (by simp [hc])]
  | tickOpen =>
    obtain ⟨-, ho⟩ | ⟨-, ho⟩ := openFrame_cases s <;> simp [Instr.port, ho]
  | tickNone | edgeNone | reportNone => simp [Instr.port]
  | query | unknown | pinModeOk | pinModeRejected | capabilityOk | capabilityRejected => simp [Instr.port]
  | edgeCounts | reset | report | capabilityResponse => simp [Instr.port]

end Sys2Proof.Machine
end

section
/-! The active count and the grid points: what moves them (10_state.md R28, R30; 41_config.md R100). -/

namespace Sys2Proof.Machine

/-! ### The active count -/

/-- Settles O52: the bound is the invariant's, and the ways an operation can complete say what it does to the count. -/
theorem onlyConfigAndResetMoveTheCount : Obligations.OnlyConfigAndResetMoveTheCount := by
  refine ⟨fun s t i hs h => ⟨(exec_inv hs h).sized.2.2, ?_⟩, fun s => (tickMicroStep_keepsTables s).count⟩
  have hreset : ∀ {x}, i.configOperands = some x → i ≠ .reset := by rintro x hc rfl; cases hc
  cases exec_completes h with
  | configFull hc => simp [hc, hreset hc, outcomeAnswer]
  | configAllocated hc _ free armed =>
    have ha := Allocates.intro hc free armed
    simp only [ha.count, ha.answers]
    simp [hc, hreset hc]
  | tickOpen => simp [Instr.configOperands, (openFrame_keepsTables s).count]
  | tickNone | edgeNone | edgeCounts | reset | reportNone | query | unknown | pinModeOk | pinModeRejected | capabilityOk
  | capabilityRejected | report | capabilityResponse => simp [Instr.configOperands]

/-! ### The grid points -/

/-- An operation that completes leaves the slots, but for a CONFIG that allocates. -/
theorem Completes.slots_eq {i : Instr} {s t : State} (h : Completes i s t) : Allocates i s t ∨ t.slots = s.slots := by
  cases h with
  | configAllocated hc _ free armed => exact .inl ⟨hc, free, armed⟩
  | tickOpen => obtain ⟨-, ho⟩ | ⟨-, ho⟩ := openFrame_cases s <;> simp [ho]
  | configFull | query | unknown | tickNone | edgeNone | edgeCounts | reset | pinModeOk | pinModeRejected | capabilityOk
  | capabilityRejected | reportNone | report | capabilityResponse => simp

/-- What a step can do to slot `i`: its role stays, and its time stays, moves by its interval at the head of the due slots,
or becomes the epoch of all active slots where one is added. -/
def SlotMoves (i : Nat) (s t : State) : Prop :=
  SameRole (slotAt t i) (slotAt s i) ∧
    ((slotAt t i).lastTime = (slotAt s i).lastTime ∨
      ((∃ due, s.tick = .draining (i :: due)) ∧
        (slotAt t i).lastTime = (slotAt s i).lastTime + (slotAt s i).interval.setWidth 32) ∨
      (t.numSlots = s.numSlots + 1 ∧ ∃ epoch, ∀ j, j < t.numSlots → (slotAt t j).lastTime = epoch))

theorem SlotMoves.of_slots_eq {s t : State} (h : t.slots = s.slots) (i : Nat) : SlotMoves i s t :=
  ⟨.of_eq (slotAt_congr h i), .inl (by rw [slotAt_congr h])⟩

theorem tickMicroStep_slotMoves {s : State} {i : Nat} (hi : i < s.slots.length) : SlotMoves i s (tickMicroStep s) := by
  refine ⟨(tickMicroStep_keepsTables s).role i, ?_⟩
  obtain ⟨-, h⟩ | ⟨-, h⟩ | ⟨j, rest, hd, h⟩ := tickMicroStep_cases s <;> rw [h]
  · exact .inl rfl
  · exact .inl rfl
  · rw [slotAt_setTick, slotAt_drainSlot]
    by_cases hj : j = i
    · subst hj
      rw [if_pos ⟨rfl, hi⟩]
      exact .inr (.inl ⟨⟨rest, hd⟩, rfl⟩)
    · rw [if_neg (fun e => hj e.1)]
      exact .inl rfl

theorem exec_slotMoves {op : Instr} {s t : State} {i : Nat} (h : exec op s = .next t) (hs : TablesSized s)
    (hi : i < s.numSlots) : SlotMoves i s t := by
  obtain ha | hslots := (exec_completes h).slots_eq
  · exact ⟨ha.other (Nat.ne_of_lt hi), .inr (.inr ⟨ha.count, ha.epoch hs⟩)⟩
  · exact .of_slots_eq hslots i

theorem StepDoes.slotMoves {s u t : State} {i : Nat} (h : StepDoes s u t) (hu : TablesSized u) (hi : i < u.numSlots) :
    SlotMoves i u t := by
  cases h with
  | rests => exact .of_slots_eq rfl i
  | microStep => exact tickMicroStep_slotMoves (hu.2.1 ▸ hi.trans_le hu.2.2)
  | noInterrupt => exact .of_slots_eq rfl i
  | operation _ _ completes => exact (exec_slotMoves completes hu hi :)
  | interrupt _ _ _ completes => exact (exec_slotMoves completes hu hi :)

/-- Settles O53: taking the turn leaves the slots, and each way a step can end moves a slot as `SlotMoves` says. -/
theorem gridPointsMoveByIntervalOrResync : Obligations.GridPointsMoveByIntervalOrResync := by
  intro s t i hs h hi
  have hm := (step_does h).slotMoves (nextTurn_inv hs).sized (by simpa using hi)
  obtain ⟨⟨hline, hmode, hinterval⟩, htime⟩ : SlotMoves i s t := by
    simpa [SlotMoves, slotAt_congr (nextTurn_slots s)] using hm
  exact ⟨hline, hmode, hinterval, htime⟩

end Sys2Proof.Machine
end

section
/-! A run of CONFIGs allocates the slots densely and in order (10_state.md R31, R36; 41_config.md R98, R101). -/

namespace Sys2Proof.Machine

/-- No CONFIG of the run is refused for its line: the policy is REPLACE, or those of a recognized mode name unbound and
pairwise different lines (R36). -/
def Armable (ops : List Instr) (s : State) : Prop :=
  s.cfg.dupLine = .replace ∨
    ((ops.filterMap armedLine).Nodup ∧ ∀ line ∈ ops.filterMap armedLine, bindingAt s line = none)

theorem armedLine_of_recognized {i : Instr} {line high low : Byte} {m : TriggerMode}
    (hc : i.configOperands = some (line, m, high, low)) (hm : m ≠ .unrecognized) : armedLine i = some line := by
  simp [armedLine, hc, hm]

/-- Arming succeeds where it may, and an unrecognized mode arms nothing. -/
theorem armSlot_allowed {line : Byte} {m : TriggerMode} {s : State}
    (h : m = .unrecognized ∨ bindingAt s line = none ∨ s.cfg.dupLine = .replace) (i : Nat) :
    ∃ t, armSlot i line m s = some t := by
  by_cases hm : m = .unrecognized
  · exact ⟨s, hm ▸ armSlot_unrecognized i line s⟩
  · obtain ⟨k, im, hk, him⟩ := edgeKindOf_inputModeOf_of_recognized hm
    exact ⟨_, (armSlot_recognized hk him).trans (arm_allowed (by simpa using h.resolve_left hm) k i)⟩

/-- The first CONFIG of a run that is armable finds its line free. -/
theorem Armable.head {i : Instr} {ops : List Instr} {s : State} (h : Armable (i :: ops) s) {line high low : Byte}
    {m : TriggerMode} (hc : i.configOperands = some (line, m, high, low)) :
    m = .unrecognized ∨ bindingAt s line = none ∨ s.cfg.dupLine = .replace := by
  obtain hr | ⟨-, hfree⟩ := h
  · exact .inr (.inr hr)
  · by_cases hm : m = .unrecognized
    · exact .inl hm
    · exact .inr (.inl (hfree line (by simp [armedLine_of_recognized hc hm])))

/-- Allocating for the first CONFIG of an armable run leaves the rest armable: it binds no line but its own. -/
theorem Armable.tail {i : Instr} {ops : List Instr} {s t : State} (h : Armable (i :: ops) s) (ha : Allocates i s t) :
    Armable ops t := by
  obtain hr | ⟨hnodup, hfree⟩ := h
  · exact .inl (by rw [ha.cfg, hr])
  · have hsub : (ops.filterMap armedLine).Sublist ((i :: ops).filterMap armedLine) :=
      (List.sublist_cons_self i ops).filterMap armedLine
    refine .inr ⟨hnodup.sublist hsub, fun line hl => ?_⟩
    by_contra hb
    obtain ⟨b, hb⟩ := Option.ne_none_iff_exists'.mp hb
    obtain ⟨hold, -⟩ | ⟨m, high, low, hc, -, hkind, -⟩ := ha.binding hb
    · simp [hfree line (hsub.subset hl)] at hold
    · have hm : m ≠ .unrecognized := fun e => by simp [edgeKindOf_none.mpr e] at hkind
      rw [List.filterMap_cons_some (armedLine_of_recognized hc hm)] at hnodup
      exact (List.nodup_cons.mp hnodup).1 hl

/-- A CONFIG with a free slot whose line may be armed allocates. -/
theorem exec_config_allocates {i : Instr} {s : State} {line high low : Byte} {m : TriggerMode}
    (hc : i.configOperands = some (line, m, high, low)) (idle : s.tick = .idle) (free : s.numSlots ≠ s.cfg.maxSlots)
    (hl : m = .unrecognized ∨ bindingAt s line = none ∨ s.cfg.dupLine = .replace) :
    ∃ t, exec i s = .next t ∧ Allocates i s t := by
  obtain ⟨u, hu⟩ := armSlot_allowed (s := allocate s.numSlots line m (intervalOf high low) s) hl s.numSlots
  refine ⟨_, ?_, .intro hc free hu⟩
  rw [exec_config hc, whenIdle_of_idle idle]
  simp only [configure, free, if_false, hu]

/-- A CONFIG on a full table answers false and changes nothing else (R98). -/
theorem exec_config_full {i : Instr} {s : State} (hc : i.configOperands ≠ none) (idle : s.tick = .idle)
    (full : s.numSlots = s.cfg.maxSlots) : exec i s = .next { s with answers := s.answers ++ [false] } := by
  obtain ⟨⟨line, m, high, low⟩, hc⟩ := Option.ne_none_iff_exists'.mp hc
  rw [exec_config hc, whenIdle_of_idle idle, configure_full full]
  rfl

/-- `ops` took `s` to `t` by allocating one slot each from the first free one on: the slots active before keep their roles,
and the `j`-th new slot holds the operands of the `j`-th CONFIG. -/
structure AllocatesAll (ops : List Instr) (s t : State) : Prop where
  runs : runOps ops s = .next t
  idle : t.tick = .idle
  cfg : t.cfg = s.cfg
  count : t.numSlots = s.numSlots + ops.length
  answers : t.answers = s.answers ++ List.replicate ops.length true
  kept : ∀ j, j < s.numSlots → SameRole (slotAt t j) (slotAt s j)
  new : ∀ (j : Nat) (hj : j < ops.length) (line high low : Byte) (m : TriggerMode),
    ops[j].configOperands = some (line, m, high, low) →
    (slotAt t (s.numSlots + j)).line = line ∧ (slotAt t (s.numSlots + j)).mode = m ∧
      (slotAt t (s.numSlots + j)).interval = intervalOf high low

theorem AllocatesAll.nil {s : State} (idle : s.tick = .idle) : AllocatesAll [] s s := by
  constructor <;> simp [runOps, idle, SameRole]

/-- One allocation and then those of the rest; the slot of the first is active before the rest and keeps its role. -/
theorem AllocatesAll.cons {i : Instr} {ops : List Instr} {s t u : State} (hs : TablesSized s) (he : exec i s = .next t)
    (ha : Allocates i s t) (h : AllocatesAll ops t u) : AllocatesAll (i :: ops) s u where
  runs := by rw [runOps, he]; exact h.runs
  idle := h.idle
  cfg := h.cfg.trans ha.cfg
  count := by rw [h.count, ha.count, List.length_cons]; omega
  answers := by rw [h.answers, ha.answers]; simp [List.replicate_succ]
  kept := fun j hj => (h.kept j (by rw [ha.count]; omega)).trans (ha.other (Nat.ne_of_lt hj))
  new := by
    intro j hj line high low m hc
    cases j with
    | zero =>
      obtain ⟨hline, hmode, hinterval⟩ := h.kept s.numSlots (by rw [ha.count]; omega)
      obtain ⟨hline', hmode', hinterval'⟩ := ha.new hs hc
      exact ⟨hline.trans hline', hmode.trans hmode', hinterval.trans hinterval'⟩
    | succ j =>
      have hslot : s.numSlots + (j + 1) = t.numSlots + j := by rw [ha.count]; omega
      rw [hslot]
      exact h.new j (Nat.lt_of_succ_lt_succ hj) line high low m hc

theorem runOps_allocatesAll {ops : List Instr} {s : State} (hs : Inv s) (idle : s.tick = .idle)
    (room : s.numSlots + ops.length ≤ s.cfg.maxSlots) (hc : ∀ i ∈ ops, i.configOperands ≠ none)
    (harm : Armable ops s) : ∃ t, AllocatesAll ops s t := by
  induction ops generalizing s with
  | nil => exact ⟨s, .nil idle⟩
  | cons i ops ih =>
    rw [List.length_cons] at room
    obtain ⟨⟨line, m, high, low⟩, hi⟩ := Option.ne_none_iff_exists'.mp (hc i List.mem_cons_self)
    obtain ⟨t, he, ha⟩ := exec_config_allocates hi idle (by omega) (harm.head hi)
    have hroom : t.numSlots + ops.length ≤ t.cfg.maxSlots := by rw [ha.count, ha.cfg]; omega
    obtain ⟨u, hu⟩ := ih (exec_inv hs he) (ha.tick.trans idle) hroom (fun i' hi' => hc i' (List.mem_cons_of_mem i hi'))
      (harm.tail ha)
    exact ⟨u, .cons hs.sized he ha hu⟩

/-- Settles O25: by induction on the run, from the empty table slot `j` is the `j`-th new one. -/
theorem configsAllocateDensely : Obligations.ConfigsAllocateDensely := by
  intro s ops hs idle hempty hlen hc harm
  obtain ⟨t, h⟩ := runOps_allocatesAll hs idle (by omega) hc harm
  refine ⟨t, h.runs, by simp [h.count, hempty], h.answers, fun j hj line high low m hj' => ?_, fun hfull i hi => ?_⟩
  · simpa [hempty] using h.new j hj line high low m hj'
  · exact exec_config_full hi h.idle (by rw [h.count, h.cfg]; omega)

end Sys2Proof.Machine
end

section
/-! The account of a latch over steps and runs (20_memory.md R58, R59; 70_reset_and_hazards.md R182, R184). -/

namespace Sys2Proof.Machine

/-! ### What keeps a latch -/

theorem Inv.latch_of_active {s : State} (hs : Inv s) {i : Nat} (hi : i < s.numSlots) : i < s.latches.length := by
  obtain ⟨hlatches, -, hcount⟩ := hs.sized
  omega

theorem countedSlot_congr {s t : State} (h : t.bindings = s.bindings) (line : Byte) (d : Direction) :
    countedSlot t line d = countedSlot s line d := by
  simp [countedSlot, bindingAt_congr h]

theorem armSlot_latches {i : Nat} {line : Byte} {m : TriggerMode} {s t : State} (h : armSlot i line m s = some t) :
    t.latches = s.latches := by rw [armSlot_frame h]

/-- Of the operations only EDGE writes the latch of an active slot: a CONFIG clears that of the first free one (R96). -/
theorem Completes.latchAt_active {op : Instr} {s t : State} (h : Completes op s t) (hop : op.port ≠ .edge) {i : Nat}
    (hi : i < s.numSlots) : latchAt t i = latchAt s i := by
  cases h with
  | configAllocated _ _ _ armed =>
    rw [latchAt_finish, latchAt_activate, latchAt_congr (armSlot_latches armed), latchAt_allocate,
      if_neg (fun e => Nat.ne_of_gt hi e.1)]
  | tickOpen => obtain ⟨-, h⟩ | ⟨-, h⟩ := openFrame_cases s <;> simp [h]
  | edgeNone | edgeCounts => exact absurd rfl hop
  | reset => exact latchAt_congr (by simp) i
  | configFull | query | unknown | tickNone | pinModeOk | pinModeRejected | capabilityOk | capabilityRejected
  | reportNone | report | capabilityResponse => simp

/-- A command is no EDGE: CONFIG, QUERY and UNKNOWN are all on the command port (R65, R70, R71). -/
theorem decodeCommand_port {c : Config} {code : Byte} {payload : List Byte} {op : Instr}
    (h : decodeCommand c code payload = .ok op) : op.port = .command := by
  unfold decodeCommand at h
  split at h
  · split at h <;> cases h
    exact port_of_configOperands (by simp [decodeConfig_operands])
  · split at h <;> cases h <;> rfl

/-- No transaction for the poll loop decodes to an EDGE (R39). -/
theorem decodePoll_port_ne_edge {c : Config} {r : PollRequest} {op : Instr} (h : decodePoll c r = .ok op) :
    op.port ≠ .edge := by
  cases r with
  | command => rw [decodeCommand_port h]; decide
  | tick | pinMode | capability | reset => cases h; simp [Instr.port]

/-- An operation taken from the ports of the poll loop leaves the latch of every active slot. -/
theorem runPresented_latchAt {s t : State} (h : runPresented s = .next t) {i : Nat} (hi : i < s.numSlots) :
    latchAt t i = latchAt s i := by
  cases hp : s.polls with
  | nil => rw [runPresented, hp] at h; cases h; rfl
  | cons r rest =>
    cases hd : decodePoll s.cfg r with
    | error e => rw [runPresented_error hp hd] at h; cases h
    | ok op =>
      rw [runPresented_ok hp hd] at h
      exact (exec_completes h).latchAt_active (decodePoll_port_ne_edge hd) hi

/-! ### What moves a latch -/

/-- An edge agent whose oldest transition counts on `j` adds one to the latch of `j` (R86). -/
theorem runEdgeAgent_counts {s : State} {e : EdgeEvent} {es : List EdgeEvent} {j : Nat} (he : s.edges = e :: es)
    (hirq : s.cfg.irqCapable e.line = true) (hc : countedSlot s e.line e.dir = some j) :
    runEdgeAgent s = .next (incrementLatch j (setEdges es s)) := by
  rw [runEdgeAgent_cons he, if_pos hirq]
  exact exec_edge_counts hc

/-- An edge agent whose oldest transition counts on no slot takes it and no more (R87; a line that cannot interrupt: log 7). -/
theorem runEdgeAgent_none {s : State} {e : EdgeEvent} {es : List EdgeEvent} (he : s.edges = e :: es)
    (h : s.cfg.irqCapable e.line = true → countedSlot s e.line e.dir = none) :
    runEdgeAgent s = .next (setEdges es s) := by
  rw [runEdgeAgent_cons he]
  split
  · next hirq => exact exec_edge_none (h hirq)
  · rfl

/-- The poll loop drains the first due slot left (R116, R121). -/
theorem runPollLoop_drains {s : State} {j : Nat} {due : List Nat} (h : s.tick = .draining (j :: due)) :
    runPollLoop s = .next (setTick (.draining due) (drainSlot j s)) := by
  rw [runPollLoop_draining h, tickMicroStep_cons h]

/-! ### The amounts of a step -/

theorem stepCounts_of_turn {s : State} (h : (nextTurn s).1 ≠ some .edgeAgent) (i : Nat) : stepCounts i s = 0#32 := by
  unfold stepCounts
  split
  · next hturn _ => exact absurd hturn h
  · rfl

theorem stepDrains_of_turn {s : State} (h : (nextTurn s).1 ≠ some .pollLoop) (i : Nat) : stepDrains i s = 0#32 := by
  unfold stepDrains
  split
  · next hturn _ => exact absurd hturn h
  · rfl

/-- A turn of the poll loop takes from the latch of an active slot what it reports of it. -/
theorem runPollLoop_balances {s t : State} {i : Nat} (hs : Inv s) (hi : i < s.numSlots)
    (hturn : (nextTurn s).1 = some .pollLoop) (h : runPollLoop (nextTurn s).2 = .next t) :
    latchAt t i + stepDrains i s = latchAt s i := by
  have hu : latchAt (nextTurn s).2 i = latchAt s i := latchAt_congr (nextTurn_latches s) i
  match ht : s.tick with
  | .idle =>
    rw [runPollLoop_idle (by simpa using ht)] at h
    simp [stepDrains, ht, runPresented_latchAt h (by simpa using hi), hu]
  | .draining [] =>
    have hd : (nextTurn s).2.tick = .draining [] := by simpa using ht
    rw [runPollLoop_draining hd, tickMicroStep_nil hd] at h
    cases h
    simp [stepDrains, ht, hu]
  | .draining (j :: due) =>
    rw [runPollLoop_drains ((nextTurn_tick s).trans ht)] at h
    cases h
    by_cases hj : j = i
    · simp [stepDrains, hturn, ht, hj, latchAt_drainSlot, hs.latch_of_active hi]
    · simp [stepDrains, hturn, ht, hj, latchAt_drainSlot, hu]

/-- A turn of an edge agent adds to the latch of an active slot what it counts on it. -/
theorem runEdgeAgent_balances {s t : State} {i : Nat} (hs : Inv s) (hi : i < s.numSlots)
    (hturn : (nextTurn s).1 = some .edgeAgent) (h : runEdgeAgent (nextTurn s).2 = .next t) :
    latchAt t i = latchAt s i + stepCounts i s := by
  have hu : latchAt (nextTurn s).2 i = latchAt s i := latchAt_congr (nextTurn_latches s) i
  match he : s.edges with
  | [] =>
    rw [runEdgeAgent, nextTurn_edges, he] at h
    cases h
    simp [stepCounts, he, hu]
  | e :: es =>
    have he' : (nextTurn s).2.edges = e :: es := (nextTurn_edges s).trans he
    have hcs := countedSlot_congr (nextTurn_bindings s) e.line e.dir
    by_cases hirq : s.cfg.irqCapable e.line = true
    · cases hc : countedSlot s e.line e.dir with
      | none =>
        rw [runEdgeAgent_none he' (fun _ => hcs.trans hc)] at h
        cases h
        simp [stepCounts, hturn, he, hc, hu]
      | some j =>
        rw [runEdgeAgent_counts he' (by simpa using hirq) (hcs.trans hc)] at h
        cases h
        by_cases hj : j = i
        · simp [stepCounts, hturn, he, hirq, hc, hj, latchAt_incrementLatch, hs.latch_of_active hi, hu]
        · simp [stepCounts, hturn, he, hc, hj, latchAt_incrementLatch, hu]
    · rw [runEdgeAgent_none he' (fun h => absurd (by simpa using h) hirq)] at h
      cases h
      simp [stepCounts, hturn, he, hirq, hu]

/-- The account of one step: what the latch holds after it and what it reports of the slot make up what the latch held
before it and what it counts on the slot. -/
theorem step_balances {s t : State} {i : Nat} (hs : Inv s) (hi : i < s.numSlots) (h : step s = .next t) :
    latchAt t i + stepDrains i s = latchAt s i + stepCounts i s := by
  have hu : latchAt (nextTurn s).2 i = latchAt s i := latchAt_congr (nextTurn_latches s) i
  rw [step] at h
  match hturn : (nextTurn s).1 with
  | none =>
    rw [hturn] at h
    cases h
    simp [stepDrains_of_turn, stepCounts_of_turn, hturn, hu]
  | some .pollLoop =>
    rw [hturn] at h
    simp [stepCounts_of_turn, hturn, runPollLoop_balances hs hi hturn h]
  | some .edgeAgent =>
    rw [hturn] at h
    simp [stepDrains_of_turn, hturn, runEdgeAgent_balances hs hi hturn h]
  | some .host =>
    rw [hturn] at h
    simp [stepDrains_of_turn, stepCounts_of_turn, hturn, hu, runPresented_latchAt h (by simpa using hi)]

/-! ### The account of a run -/

theorem runSteps_succ {s t : State} (h : step s = .next t) (k : Nat) : runSteps (k + 1) s = runSteps k t := by
  simp only [runSteps, h]

theorem sumOver_succ {s t : State} (h : step s = .next t) (amount : State → Word) (k : Nat) :
    sumOver amount (k + 1) s = amount s + sumOver amount k t := by
  simp only [sumOver, h]

/-- A run that completes begins with a step that does. -/
theorem runSteps_succ_next {k : Nat} {s u : State} (h : runSteps (k + 1) s = .next u) :
    ∃ t, step s = .next t ∧ runSteps k t = .next u := by
  unfold runSteps at h
  split at h
  · next t ht => exact ⟨t, ht, h⟩
  all_goals cases h

/-- Settles O54: by induction on the run, each step balances and the invariant carries to the next. -/
theorem noEdgeIsLostOrCountedTwice : Obligations.NoEdgeIsLostOrCountedTwice := by
  intro k i s u hs h hactive
  induction k generalizing s with
  | zero => cases h; rfl
  | succ k ih =>
    obtain ⟨t, hstep, hrun⟩ := runSteps_succ_next h
    have hi : i < s.numSlots := hactive 0 s (Nat.zero_le _) rfl
    have hrest := ih t (everyStepKeepsTheInvariant s t hs hstep) hrun fun j v hj hv =>
      hactive (j + 1) v (Nat.succ_le_succ hj) ((runSteps_succ hstep j).trans hv)
    rw [sumOver_succ hstep, sumOver_succ hstep]
    linear_combination hrest + step_balances hs hi hstep

end Sys2Proof.Machine
end

section
/-! The race of an edge with the drain of its slot, and the free choice between the agents (20_memory.md R58, R59;
40_edge_latch.md R89; 60_exceptions.md R159). -/

namespace Sys2Proof.Machine

/-- A prescribed turn of an edge agent counts the oldest transition. -/
theorem step_edgeAgent_counts {s : State} {e : EdgeEvent} {es : List EdgeEvent} {ts : List Turn} {j : Nat}
    (hturns : s.turns = .edgeAgent :: ts) (he : s.edges = e :: es) (hirq : s.cfg.irqCapable e.line = true)
    (hc : countedSlot s e.line e.dir = some j) : step s = .next (incrementLatch j (setEdges es (setTurns ts s))) :=
  (step_turn hturns).trans (runEdgeAgent_counts he hirq hc)

/-- A prescribed turn of the poll loop drains the first due slot left. -/
theorem step_pollLoop_drains {s : State} {j : Nat} {due : List Nat} {ts : List Turn}
    (hturns : s.turns = .pollLoop :: ts) (ht : s.tick = .draining (j :: due)) :
    step s = .next (setTick (.draining due) (drainSlot j (setTurns ts s))) :=
  (step_turn hturns).trans (runPollLoop_drains ht)

theorem runSteps_two {s t u : State} (h : step s = .next t) (h' : step t = .next u) : runSteps 2 s = .next u :=
  (runSteps_succ h 1).trans (runSteps_succ h' 0)

/-- Settles O15: both runs increment the latch once and drain it once, in the order of the turns. -/
theorem edgeRacingADrainIsCountedOnce : Obligations.EdgeRacingADrainIsCountedOnce := by
  intro s i due e es ts hs ht he hirq hc
  obtain ⟨-, hactive⟩ := hs.ticks _ ht
  have hi : i < s.latches.length := hs.latch_of_active (hactive i List.mem_cons_self)
  refine ⟨fun hturns => ?_, fun hturns => ?_⟩
  · have hcount := step_edgeAgent_counts hturns he hirq hc
    refine ⟨_, runSteps_two hcount (step_pollLoop_drains rfl ht), ?_, ?_⟩
    · simp [latchAt_incrementLatch, hi]
    · simp [latchAt_drainSlot, hi]
  · have hdrain := step_pollLoop_drains hturns ht
    refine ⟨_, runSteps_two hdrain (step_edgeAgent_counts rfl he hirq hc), ?_, ?_⟩
    · simp
    · simp [latchAt_incrementLatch, latchAt_drainSlot, hi]

/-- With no turn prescribed and both agents ready, the free choice decides and one draw is counted (log 5). -/
theorem nextTurn_both {s : State} (h : s.turns = []) (hp : pollReady s = true) (he : s.edges ≠ []) :
    nextTurn s = (some (turnOf (Config.freeTurn s.draws)), countDraw s) := by
  have hedge : edgeReady s = true := by simpa [edgeReady] using he
  simp [nextTurn, h, hp, hedge]

/-- Settles O13: the free choice is one of the two agents. -/
theorem eitherAgentMayMove : Obligations.EitherAgentMayMove := by
  intro s h hp he
  rw [step, nextTurn_both h hp he]
  cases Config.freeTurn s.draws with
  | pollLoop => exact .inl rfl
  | edgeAgent => exact .inr rfl

end Sys2Proof.Machine
end

section
/-! The bytes of an emitted value (20_memory.md R48; 30_encoding.md R75). -/

namespace Sys2Proof

/-- Settles O6: reading the four bytes back gives the value, and what is read is the number they spell. -/
theorem valueBytesSpellTheValue : Obligations.ValueBytesSpellTheValue := by
  intro v
  refine ⟨_, _, _, _, rfl, ?_⟩
  conv_lhs => rw [← wordBE_bytesBE v, wordBE_toNat]
  omega

end Sys2Proof
end

section
/-! Encoding and decoding: each part of the decoder inverts the encoder and answers well-formed operations only
(30_encoding.md R65 to R79, R128). -/

namespace Sys2Proof

/-! ### Commands -/

theorem decodeCommand_config (c : Config) (line mode high low : Byte) :
    decodeCommand c c.cmdConfig [line, mode, high, low] = .ok (decodeConfig line mode high low) := by
  simp [decodeCommand]

theorem decodeCommand_config_wrongLength {payload : List Byte} (h : payload.length ≠ 4) (c : Config) :
    decodeCommand c c.cmdConfig payload = .error (.payloadLength payload.length) := by
  unfold decodeCommand
  rw [if_pos rfl]
  split
  · exact absurd rfl h
  · rfl

theorem decodeCommand_query (c : Config) (payload : List Byte) :
    decodeCommand c c.cmdQuery payload = .ok (.query payload) := by
  simp [decodeCommand, c.codes_differ.symm]

theorem decodeCommand_unknown {c : Config} {code : Byte} (hc : code ≠ c.cmdConfig) (hq : code ≠ c.cmdQuery)
    (payload : List Byte) : decodeCommand c code payload = .ok (.unknown code payload) := by
  simp [decodeCommand, hc, hq]

theorem decodeConfig_unrecognized {mode : Byte} (h : 6 ≤ mode.toNat) (line high low : Byte) :
    decodeConfig line mode high low = .configUnrecognized line mode high low := by
  simp [decodeConfig, decodeMode_unrecognized.mpr h]

theorem decodeConfig_wellFormed (c : Config) (line mode high low : Byte) :
    WellFormed c (decodeConfig line mode high low) = true := by
  cases hm : decodeMode mode with
  | unrecognized => simpa [decodeConfig, hm, WellFormed] using decodeMode_unrecognized.mp hm
  | change | rising | falling | changePu | risingPu | fallingPu => simp [decodeConfig, hm, WellFormed]

/-- The code chooses (R94): a CONFIG has its four bytes, a QUERY is free, and an UNKNOWN code is neither parameter. -/
theorem decodeCommand_wellFormed {c : Config} {code : Byte} {payload : List Byte} {i : Instr}
    (h : decodeCommand c code payload = .ok i) : WellFormed c i = true := by
  unfold decodeCommand at h
  split at h
  · split at h <;> cases h
    exact decodeConfig_wellFormed c _ _ _ _
  · split at h <;> cases h
    · rfl
    · simp_all [WellFormed]

/-! ### Output messages -/

theorem decodeReport_encodePayload {mask : Byte} {values : List Word} (h : values.length = (maskSlots mask).length) :
    decodeReport (encodePayload mask values) = some (mask, values) := by
  have hread := readValues_flatMap mask (List.range 8) values [] h
  rw [List.append_nil] at hread
  simp only [encodePayload, decodeReport, hread]

theorem reportWellFormed_iff {c : Config} {mask : Byte} {values : List Word} :
    reportWellFormed c mask values = true ↔
      mask ≠ 0#8 ∧ mask.toNat < 2 ^ c.maxSlots ∧ values.length = (maskSlots mask).length := by
  simp [reportWellFormed, and_assoc]

/-- What is left of an encoded frame past its start marker and tag decodes to the report (R72). -/
theorem decodeFrameRest_encodePayload {c : Config} {mask : Byte} {values : List Word}
    (h : reportWellFormed c mask values = true) :
    decodeFrameRest c (encodePayload mask values ++ [c.frameEnd]) = .ok (.report mask values) := by
  obtain ⟨-, -, hlength⟩ := reportWellFormed_iff.mp h
  simp [decodeFrameRest, decodeReport_encodePayload hlength, h]

theorem decodeOutput_encodeReport {c : Config} {mask : Byte} {values : List Word}
    (h : reportWellFormed c mask values = true) :
    decodeOutput c (encodeReport c mask values) = .ok (.report mask values) := by
  rw [← decodeFrameRest_encodePayload h]
  simp [encodeReport, encodePayload, decodeOutput]

theorem decodeFrameRest_wellFormed {c : Config} {rest : List Byte} {i : Instr} (h : decodeFrameRest c rest = .ok i) :
    WellFormed c i = true := by
  unfold decodeFrameRest at h
  split at h
  · split at h <;> cases h
    next hwf => exact hwf.2
  · cases h

/-- A message of two bytes is a capability response with the capacity as its count, a longer one a frame. -/
theorem decodeOutput_wellFormed {c : Config} {bytes : List Byte} {i : Instr} (h : decodeOutput c bytes = .ok i) :
    WellFormed c i = true := by
  unfold decodeOutput at h
  split at h
  · split at h <;> cases h
    next hcount => exact beq_iff_eq.mpr hcount.2
  · split at h
    · exact decodeFrameRest_wellFormed h
    · cases h
  · cases h

/-! ### Round trips -/

/-- Settles O1: by the form of the operation, each from what its part of the decoder answers on its encoding. -/
theorem encodedOperationsDecodeBack : Obligations.EncodedOperationsDecodeBack := by
  intro c i hwf
  cases i with
  | configChange line high low | configRising line high low | configFalling line high low
  | configChangePu line high low | configRisingPu line high low | configFallingPu line high low =>
    exact decodeCommand_config c line _ high low
  | configUnrecognized line mode high low =>
    have hmode : 6 ≤ mode.toNat := of_decide_eq_true hwf
    exact (decodeCommand_config c line mode high low).trans (by rw [decodeConfig_unrecognized hmode])
  | query payload => exact decodeCommand_query c payload
  | unknown code payload =>
    obtain ⟨hc, hq⟩ : code ≠ c.cmdConfig ∧ code ≠ c.cmdQuery := by simpa [WellFormed] using hwf
    exact decodeCommand_unknown hc hq payload
  | report mask values => exact decodeOutput_encodeReport hwf
  | capabilityResponse count =>
    have hcount : count = c.maxSlotsByte := beq_iff_eq.mp hwf
    simp [decode, encode, encodeCapabilityResponse, decodeOutput, hcount]
  | tick | edge | reset | pinMode | capability => rfl

/-- Settles O2: by the port; only the command and the output port have anything to check. -/
theorem decodedOperationsAreWellFormed : Obligations.DecodedOperationsAreWellFormed := by
  intro c t i h
  match t with
  | .poll (.command code payload) => exact decodeCommand_wellFormed h
  | .output bytes => exact decodeOutput_wellFormed h
  | .edge e | .poll .tick | .poll (.pinMode line mode) | .poll (.capability line) | .poll .reset => cases h; rfl

/-- Settles O7: the loop of DecodeReport reads one value per bit of the mask and leaves nothing over. -/
theorem reportPayloadRoundTrip : Obligations.ReportPayloadRoundTrip :=
  fun _ _ h => decodeReport_encodePayload h

/-! ### Fields of a command -/

/-- Settles O3: a CONFIG of four bytes is `decodeConfig` of them, which the mode byte decides. -/
theorem commandBytesDecode : Obligations.CommandBytesDecode := fun c =>
  ⟨decodeCommand_config c 0x03 0x00 0x01 0x2C, decodeCommand_config c 0x03 0x01 0x00 0x64,
    decodeCommand_config c 0x03 0x02 0x00 0x64, decodeCommand_config c 0x03 0x03 0x00 0x64,
    decodeCommand_config c 0x03 0x04 0x00 0x64, decodeCommand_config c 0x03 0x05 0x00 0x64,
    decodeCommand_config c 0x03 0x11 0x00 0x64, decodeCommand_query c _⟩

/-- Settles O4: the six rows of the table of R67 by evaluation, and every other byte by what it is not. -/
theorem triggerModeTable : Obligations.TriggerModeTable := by
  intro m
  by_cases hm : m.toNat < 6
  · obtain rfl | rfl | rfl | rfl | rfl | rfl :
        m = 0x00#8 ∨ m = 0x01#8 ∨ m = 0x02#8 ∨ m = 0x03#8 ∨ m = 0x04#8 ∨ m = 0x05#8 := by bv_omega
    all_goals decide
  · have hmode : decodeMode m = .unrecognized := decodeMode_unrecognized.mpr (not_lt.mp hm)
    have hne : ∀ r : Byte, r.toNat < 6 → m ≠ r := fun r hr e => hm (e ▸ hr)
    simp [hmode, not_lt.mp hm, hne, Machine.edgeKindOf, Machine.inputModeOf]

/-- Settles O5: shifting the high byte and setting the low one in is the sum. -/
theorem intervalIsHighThenLow : Obligations.IntervalIsHighThenLow := by
  intro high low
  have hshift : high.toNat <<< 8 < 2 ^ 16 := by rw [Nat.shiftLeft_eq]; omega
  calc (intervalOf high low).toNat = high.toNat <<< 8 ||| low.toNat := by
        rw [intervalOf, BitVec.toNat_or, BitVec.toNat_shiftLeft, BitVec.toNat_setWidth_of_le (by decide),
          BitVec.toNat_setWidth_of_le (by decide), Nat.mod_eq_of_lt hshift]
    _ = 256 * high.toNat + low.toNat := shift_or_byte high.toNat low

end Sys2Proof
end

section
/-! The refusal of a CONFIG of another length than four, and the output messages put on the sink (30_encoding.md R65, R72,
R76, R77, R79; 43_capability_reset.md R138; 60_exceptions.md R151). -/

namespace Sys2Proof.Machine

/-- Settles O8: in each turn case the step comes down to `runPresented`, whose decoding fails for the length. -/
theorem wrongPayloadLengthIsRefused : Obligations.WrongPayloadLengthIsRefused := by
  intro s payload rest hp hlength
  have hd := decodeCommand_config_wrongLength hlength s.cfg
  refine ⟨fun ho ht => ?_, fun ts hs ht => ?_, fun ts hs => ?_⟩
  · rw [step_poll ho (pollReady_of_polls hp), runPollLoop_idle ht, runPresented_error hp hd]
    rfl
  · rw [step_turn hs, runTurn, runPollLoop_idle (s := setTurns ts s) ht,
      runPresented_error (s := setTurns ts s) hp hd]
    rfl
  · rw [step_turn hs, runTurn, runPresented_error (s := setTurns ts s) hp hd]
    rfl

/-! ### REPORT -/

theorem exec_report_empty {s : State} (idle : s.tick = .idle) : exec (.report 0#8 []) s = .next s :=
  (whenIdle_of_idle idle _).trans (if_pos ⟨rfl, rfl⟩)

theorem exec_report {s : State} {mask : Byte} {values : List Word} (idle : s.tick = .idle)
    (h : mask ≠ 0#8 ∨ values ≠ []) :
    exec (.report mask values) s =
      if reportWellFormed s.cfg mask values then .next (emit (encodeReport s.cfg mask values) s)
      else .refused .malformedMessage :=
  (whenIdle_of_idle idle _).trans (if_neg (by tauto))

/-- Settles O38: a well-formed report names some slot, so its frame is emitted. -/
theorem reportPutsItsFrameOnTheSink : Obligations.ReportPutsItsFrameOnTheSink := by
  intro s mask values idle hwf
  have hmask : mask ≠ 0#8 := (reportWellFormed_iff.mp hwf).1
  exact (exec_report idle (.inl hmask)).trans (if_pos hwf)

/-! ### CAPABILITY_RESPONSE -/

/-- The capacity fits the byte that advertises it (R8, R137). -/
theorem maxSlotsByte_toNat (c : Config) : c.maxSlotsByte.toNat = c.maxSlots := by
  have := c.maxSlots_le
  rw [Config.maxSlotsByte, BitVec.toNat_ofNat]
  omega

theorem exec_capabilityResponse {s : State} (idle : s.tick = .idle) (count : Byte) :
    exec (.capabilityResponse count) s =
      if count = s.cfg.maxSlotsByte then .next (emit (encodeCapabilityResponse s.cfg count) s)
      else .refused .malformedMessage :=
  whenIdle_of_idle idle _

/-- Settles O42: the count is the capacity, so the response is emitted. -/
theorem capabilityResponsePutsTwoBytesOnTheSink : Obligations.CapabilityResponsePutsTwoBytesOnTheSink := by
  intro s count idle hwf
  have hcount : count = s.cfg.maxSlotsByte := beq_iff_eq.mp hwf
  exact (exec_capabilityResponse idle count).trans (if_pos hcount)

/-- Settles O39: by what each message does, and a count that is not the capacity is not its byte. -/
theorem malformedMessagesAreRefused : Obligations.MalformedMessagesAreRefused := by
  intro s mask count values idle
  refine ⟨exec_report_empty idle, fun hwf h => ?_, fun hcount => ?_⟩
  · exact (exec_report idle h).trans (if_neg (Bool.eq_false_iff.mp hwf))
  · refine (exec_capabilityResponse idle count).trans (if_neg fun e => hcount ?_)
    rw [e, maxSlotsByte_toNat]

end Sys2Proof.Machine
end

section
/-! A TICK that no edge interrupts: the frame opened, the due slots drained, the frame closed (30_encoding.md R72, R74, R76,
R128; 42_report.md R116 to R122). -/

namespace Sys2Proof.Machine

/-! ### The mask of the due slots -/

theorem getLsbD_foldl_setBits (due : List Nat) (m : Byte) {j : Nat} (hj : j < 8) :
    (due.foldl (fun m i => m ||| (1#8 <<< i)) m).getLsbD j = (m.getLsbD j || decide (j ∈ due)) := by
  induction due generalizing m with
  | nil => simp
  | cons i due ih =>
    have hbit : (1#8 <<< i).getLsbD j = decide (j = i) := by
      rw [← BitVec.twoPow_eq, BitVec.getLsbD_twoPow]
      grind
    simp only [List.foldl_cons, ih, BitVec.getLsbD_or, hbit, Bool.or_assoc, List.mem_cons, Bool.decide_or]

/-- Bit `j` of the mask names slot `j` (R74, R117). -/
theorem getLsbD_maskOf (due : List Nat) {j : Nat} (hj : j < 8) : (maskOf due).getLsbD j = decide (j ∈ due) := by
  rw [maskOf, getLsbD_foldl_setBits due 0#8 hj, BitVec.getLsbD_zero, Bool.false_or]

theorem mem_maskSlots {mask : Byte} {j : Nat} : j ∈ maskSlots mask ↔ j < 8 ∧ mask.getLsbD j = true := by
  rw [maskSlots, List.mem_filter, List.mem_range]

theorem maskSlots_sorted (mask : Byte) : (maskSlots mask).Pairwise (· < ·) :=
  List.Pairwise.filter _ List.pairwise_lt_range

/-- The mask of a list of slots in ascending order names just these. -/
theorem maskSlots_maskOf {due : List Nat} (hsorted : due.Pairwise (· < ·)) (hlt : ∀ i ∈ due, i < 8) :
    maskSlots (maskOf due) = due := by
  refine (maskSlots_sorted _).eq_of_mem_iff hsorted fun j => ?_
  rw [mem_maskSlots]
  constructor
  · rintro ⟨hj, hbit⟩
    exact of_decide_eq_true ((getLsbD_maskOf due hj).symm.trans hbit)
  · intro hmem
    exact ⟨hlt j hmem, (getLsbD_maskOf due (hlt j hmem)).trans (decide_eq_true hmem)⟩

theorem Inv.count_le_eight {s : State} (hs : Inv s) : s.numSlots ≤ 8 := hs.sized.2.2.trans s.cfg.maxSlots_le

theorem maskSlots_maskOf_dueSlots {s : State} (hs : Inv s) (t : Word) :
    maskSlots (maskOf (dueSlots s t)) = dueSlots s t :=
  maskSlots_maskOf (dueSlots_sorted s t) fun _ hi => (mem_dueSlots.mp hi).1.trans_le hs.count_le_eight

/-! ### Lengths -/

theorem dueSlots_length_le (s : State) (t : Word) : (dueSlots s t).length ≤ s.numSlots :=
  (List.length_filter_le _ _).trans_eq List.length_range

/-- The length of a report frame (R76). -/
theorem encodeReport_length (c : Config) (mask : Byte) (values : List Word) :
    (encodeReport c mask values).length = 4 + 4 * values.length := by
  simp [encodeReport, encodePayload_length]
  omega

/-- Settles O35: the mask names the due slots, which are some of the active ones; the bytes go by their number. -/
theorem frameLengths : Obligations.FrameLengths := by
  intro s t hs hdue
  obtain ⟨-, -, hcount⟩ := hs.sized
  refine ⟨by rw [maskSlots_maskOf_dueSlots hs], List.length_pos_iff.mpr hdue, dueSlots_length_le s t, hcount, ?_, ?_⟩
  · rw [encodePayload_length, List.length_map]
  · rw [encodeReport_length, List.length_map]

/-! ### Micro-step 1 -/

theorem exec_tick_no_slots {s : State} (idle : s.tick = .idle) (h : s.numSlots = 0) : exec .tick s = .next s :=
  (whenIdle_of_idle idle _).trans (if_pos h)

theorem exec_tick_slots {s : State} (idle : s.tick = .idle) (h : s.numSlots ≠ 0) : exec .tick s = .next (openFrame s) :=
  (whenIdle_of_idle idle _).trans (if_neg h)

theorem openFrame_nothing_due {s : State} (h : dueSlots s (clockReading s) = []) :
    openFrame s = { s with clock := s.clock.tail, draws := drawsAfterSample s } :=
  (if_pos h).trans (afterSample_eq s)

/-- Micro-step 1 with a due slot (R116, R117). -/
theorem openFrame_due {s : State} (h : dueSlots s (clockReading s) ≠ []) :
    openFrame s = { s with
      clock := s.clock.tail, draws := drawsAfterSample s, tick := .draining (dueSlots s (clockReading s)),
      output := s.output ++ [s.cfg.frameStart, s.cfg.responseTag, maskOf (dueSlots s (clockReading s))] } := by
  rw [openFrame, if_neg h, afterSample_eq]
  rfl

/-- Settles O31: micro-step 1 leaves the list of the due slots to drain and emits their mask. -/
theorem tickOpensAFrame : Obligations.TickOpensAFrame := by
  rintro s hs idle ⟨i, hi⟩
  have hdue : dueSlots s (clockReading s) ≠ [] := List.ne_nil_of_mem (mem_dueSlots.mpr hi)
  refine ⟨dueSlots s (clockReading s), maskOf (dueSlots s (clockReading s)), ?_, dueSlots_sorted s _,
    fun _ => mem_dueSlots, fun j hj => ?_⟩
  · rw [exec_tick_slots idle (Nat.ne_zero_of_lt hi.1), openFrame_due hdue]
  · rw [getLsbD_maskOf _ hj, decide_eq_true_iff, mem_dueSlots]

/-! ### Draining a list of slots -/

/-- Micro-steps 2.i for each listed slot in order (R116). -/
def drainAll (due : List Nat) (s : State) : State := due.foldl (fun t i => drainSlot i t) s

/-- A slot as its drain leaves it: its grid point moved by its interval (R120), its value what the latch held (R121). -/
def reportedSlot (s : State) (i : Nat) : Slot :=
  { slotAt s i with
    lastTime := (slotAt s i).lastTime + (slotAt s i).interval.setWidth 32, lastValue := latchAt s i }

@[simp] theorem drainAll_nil (s : State) : drainAll [] s = s := rfl

@[simp] theorem drainAll_cons (i : Nat) (due : List Nat) (s : State) :
    drainAll (i :: due) s = drainAll due (drainSlot i s) := rfl

/-- Drains write the latches, the slots and the sink alone. -/
theorem drainAll_frame (due : List Nat) (s : State) :
    drainAll due s = { s with
      latches := (drainAll due s).latches, slots := (drainAll due s).slots, output := (drainAll due s).output } := by
  induction due generalizing s with
  | nil => rfl
  | cons i due ih => exact ih (drainSlot i s)

@[simp] theorem drainAll_cfg (due : List Nat) (s : State) : (drainAll due s).cfg = s.cfg := by rw [drainAll_frame]

theorem drainAll_setTick (due : List Nat) (p : TickPhase) (s : State) :
    drainAll due (setTick p s) = setTick p (drainAll due s) := by
  induction due generalizing s with
  | nil => rfl
  | cons i due ih => exact ih (drainSlot i s)

theorem drainAll_latches_length (due : List Nat) (s : State) :
    (drainAll due s).latches.length = s.latches.length := by
  induction due generalizing s with
  | nil => rfl
  | cons i due ih => simp [ih]

theorem drainAll_slots_length (due : List Nat) (s : State) : (drainAll due s).slots.length = s.slots.length := by
  induction due generalizing s with
  | nil => rfl
  | cons i due ih => simp [ih]

theorem latchAt_drainSlot_ne {i j : Nat} (h : i ≠ j) (s : State) : latchAt (drainSlot i s) j = latchAt s j := by
  simp [latchAt_drainSlot, h]

theorem slotAt_drainSlot_ne {i j : Nat} (h : i ≠ j) (s : State) : slotAt (drainSlot i s) j = slotAt s j := by
  simp [slotAt_drainSlot, h]

theorem latchAt_drainAll_of_notMem {due : List Nat} {j : Nat} (h : j ∉ due) (s : State) :
    latchAt (drainAll due s) j = latchAt s j := by
  induction due generalizing s with
  | nil => rfl
  | cons i due ih =>
    obtain ⟨hne, hmem⟩ := List.ne_and_not_mem_of_not_mem_cons h
    rw [drainAll_cons, ih hmem, latchAt_drainSlot_ne (Ne.symm hne)]

theorem slotAt_drainAll_of_notMem {due : List Nat} {j : Nat} (h : j ∉ due) (s : State) :
    slotAt (drainAll due s) j = slotAt s j := by
  induction due generalizing s with
  | nil => rfl
  | cons i due ih =>
    obtain ⟨hne, hmem⟩ := List.ne_and_not_mem_of_not_mem_cons h
    rw [drainAll_cons, ih hmem, slotAt_drainSlot_ne (Ne.symm hne)]

/-- The latch of a listed slot is drained by its own turn and left by the others. -/
theorem latchAt_drainAll_of_mem {due : List Nat} {j : Nat} {s : State} (hnodup : due.Nodup) (hj : j ∈ due)
    (hlt : j < s.latches.length) : latchAt (drainAll due s) j = 0#32 := by
  induction due generalizing s with
  | nil => cases hj
  | cons i due ih =>
    obtain ⟨hi, hnodup⟩ := List.nodup_cons.mp hnodup
    rw [drainAll_cons]
    obtain rfl | hmem := List.mem_cons.mp hj
    · rw [latchAt_drainAll_of_notMem hi, latchAt_drainSlot, if_pos ⟨rfl, hlt⟩]
    · exact ih hnodup hmem (by simpa using hlt)

/-- A listed slot is reported at its own turn, from what it and its latch held at the start. -/
theorem slotAt_drainAll_of_mem {due : List Nat} {j : Nat} {s : State} (hnodup : due.Nodup) (hj : j ∈ due)
    (hlt : j < s.slots.length) : slotAt (drainAll due s) j = reportedSlot s j := by
  induction due generalizing s with
  | nil => cases hj
  | cons i due ih =>
    obtain ⟨hi, hnodup⟩ := List.nodup_cons.mp hnodup
    rw [drainAll_cons]
    obtain rfl | hmem := List.mem_cons.mp hj
    · rw [slotAt_drainAll_of_notMem hi, slotAt_drainSlot, if_pos ⟨rfl, hlt⟩, reportedSlot]
    · have hne : i ≠ j := (ne_of_mem_of_not_mem hmem hi).symm
      rw [ih hnodup hmem (by simpa using hlt), reportedSlot, slotAt_drainSlot_ne hne, latchAt_drainSlot_ne hne,
        reportedSlot]

/-- The bytes of each listed slot's latch go out in order, each as it was at the start. -/
theorem drainAll_output {due : List Nat} (hnodup : due.Nodup) (s : State) :
    (drainAll due s).output = s.output ++ (due.map (latchAt s)).flatMap bytesBE := by
  induction due generalizing s with
  | nil => simp
  | cons i due ih =>
    obtain ⟨hi, hnodup⟩ := List.nodup_cons.mp hnodup
    have hvalues : due.map (latchAt (drainSlot i s)) = due.map (latchAt s) :=
      List.map_congr_left fun j hj => latchAt_drainSlot_ne (ne_of_mem_of_not_mem hj hi).symm s
    simp [ih hnodup, hvalues]

/-! ### The whole TICK -/

theorem step_draining {s : State} {due : List Nat} (ho : OnlyPollLoop s) (ht : s.tick = .draining due) :
    step s = .next (tickMicroStep s) :=
  (step_poll ho (pollReady_of_draining ht)).trans (runPollLoop_draining ht)

/-- An incomplete TICK with `k` slots left to drain, left alone, ends in `k + 1` steps (R116). -/
theorem runSteps_draining {due : List Nat} {s : State} (ho : OnlyPollLoop s) (ht : s.tick = .draining due) :
    runSteps (due.length + 1) s = .next (closeFrame (drainAll due s)) := by
  rw [runSteps_succ (step_draining ho ht)]
  induction due generalizing s with
  | nil => rw [tickMicroStep_nil ht]; rfl
  | cons i due ih =>
    have hnext : OnlyPollLoop (setTick (.draining due) (drainSlot i s)) := ho
    rw [tickMicroStep_cons ht, List.length_cons, runSteps_succ (step_draining hnext rfl), ih hnext rfl,
      drainAll_setTick]
    rfl

theorem step_tick {s : State} {rest : List PollRequest} (ho : OnlyPollLoop s) (idle : s.tick = .idle)
    (hp : s.polls = .tick :: rest) : step s = exec .tick (setPolls rest s) :=
  (stepRunsThePresentedOperation s .tick rest .tick hp rfl).1 ho idle

/-- What a TICK leaves whose frame is opened on `s` and whose due slots are then drained one after the other. -/
def reported (s : State) : State := closeFrame (drainAll (dueSlots s (clockReading s)) (openFrame s))

@[simp] theorem openFrame_latches (s : State) : (openFrame s).latches = s.latches := by
  obtain ⟨-, h⟩ | ⟨-, h⟩ := openFrame_cases s <;> simp [h]

@[simp] theorem openFrame_slots (s : State) : (openFrame s).slots = s.slots := by
  obtain ⟨-, h⟩ | ⟨-, h⟩ := openFrame_cases s <;> simp [h]

@[simp] theorem latchAt_openFrame (s : State) (j : Nat) : latchAt (openFrame s) j = latchAt s j :=
  latchAt_congr (openFrame_latches s) j

@[simp] theorem slotAt_openFrame (s : State) (j : Nat) : slotAt (openFrame s) j = slotAt s j :=
  slotAt_congr (openFrame_slots s) j

theorem dueSlots_nodup (s : State) (t : Word) : (dueSlots s t).Nodup := (dueSlots_sorted s t).nodup

theorem runSteps_openFrame {s : State} (ho : OnlyPollLoop s) (h : dueSlots s (clockReading s) ≠ []) :
    runSteps ((dueSlots s (clockReading s)).length + 1) (openFrame s) = .next (reported s) := by
  have htick : (openFrame s).tick = .draining (dueSlots s (clockReading s)) := by rw [openFrame_due h]
  exact runSteps_draining (by rwa [openFrame_due h]) htick

theorem reported_frame {s : State} (h : dueSlots s (clockReading s) ≠ []) (idle : s.tick = .idle) :
    reported s = { s with
      clock := s.clock.tail, draws := drawsAfterSample s,
      latches := (reported s).latches, slots := (reported s).slots, output := (reported s).output } := by
  conv_lhs => rw [reported, drainAll_frame]
  rw [reported, openFrame_due h]
  simp [closeFrame, setTick, emit, idle]

theorem reported_latches_length (s : State) : (reported s).latches.length = s.latches.length := by
  simp [reported, drainAll_latches_length]

theorem reported_slots_length (s : State) : (reported s).slots.length = s.slots.length := by
  simp [reported, drainAll_slots_length]

/-- The sink gets one whole frame (R128). -/
theorem reported_output {s : State} (h : dueSlots s (clockReading s) ≠ []) :
    (reported s).output = s.output ++ encodeReport s.cfg (maskOf (dueSlots s (clockReading s)))
      ((dueSlots s (clockReading s)).map (latchAt s)) := by
  have hlatch : latchAt (openFrame s) = latchAt s := funext (latchAt_openFrame s)
  rw [reported, closeFrame_output, drainAll_output (dueSlots_nodup s _), hlatch, drainAll_cfg, openFrame_due h]
  simp [encodeReport, encodePayload]

/-- Every due slot is reported and its latch drained (R120, R121). -/
theorem reported_due {s : State} (hs : TablesSized s) {j : Nat} (h : j ∈ dueSlots s (clockReading s)) :
    latchAt (reported s) j = 0#32 ∧ slotAt (reported s) j = reportedSlot s j := by
  obtain ⟨hlatches, hslots, hcount⟩ := hs
  have hactive : j < s.numSlots := (mem_dueSlots.mp h).1
  have hslot : reportedSlot (openFrame s) j = reportedSlot s j := by simp [reportedSlot]
  rw [reported, latchAt_closeFrame, slotAt_closeFrame, ← hslot]
  exact ⟨latchAt_drainAll_of_mem (dueSlots_nodup s _) h (by rw [openFrame_latches]; omega),
    slotAt_drainAll_of_mem (dueSlots_nodup s _) h (by rw [openFrame_slots]; omega)⟩

theorem reported_not_due {s : State} {j : Nat} (h : j ∉ dueSlots s (clockReading s)) :
    latchAt (reported s) j = latchAt s j ∧ slotAt (reported s) j = slotAt s j := by
  simp [reported, latchAt_drainAll_of_notMem h, slotAt_drainAll_of_notMem h]

/-- Settles O34: without slots or a due slot the TICK is its first step; else the frame is opened and drained to its end. -/
theorem tickReportsEveryDueSlot : Obligations.TickReportsEveryDueSlot := by
  intro s rest hs ho idle hp
  have hstep := step_tick ho idle hp
  split
  · next hn => exact hstep.trans (exec_tick_no_slots idle hn)
  · next hn =>
    rw [exec_tick_slots (s := setPolls rest s) idle hn] at hstep
    split
    · next hdue => rw [hstep, openFrame_nothing_due (s := setPolls rest s) hdue]; rfl
    · next hdue =>
      refine ⟨reported (setPolls rest s), ?_, reported_frame (s := setPolls rest s) hdue idle,
        reported_latches_length _, reported_slots_length _,
        ⟨_, reported_output (s := setPolls rest s) hdue, maskSlots_maskOf_dueSlots hs _⟩,
        fun j hj hd => ?_, fun j hj => ?_⟩
      · rw [runSteps_succ hstep]
        exact runSteps_openFrame (s := setPolls rest s) ho hdue
      · exact reported_due (s := setPolls rest s) hs.sized (mem_dueSlots.mpr ⟨hj, hd⟩)
      · exact reported_not_due (s := setPolls rest s) (mt mem_dueSlots.mp hj)

end Sys2Proof.Machine
end

section
/-! EDGE and the latch (40_edge_latch.md R85 to R88, R91), by the slot the transition counts on. -/

namespace Sys2Proof.Machine

/-- A bound line counts on the slot of its binding, where the direction qualifies (R86, R87). -/
theorem countedSlot_of_bound {s : State} {line : Byte} {b : Binding} (h : bindingAt s line = some b) (d : Direction) :
    countedSlot s line d = if qualifies b.kind d then some b.slot else none := by
  simp only [countedSlot, h]

theorem countedSlot_of_unbound {s : State} {line : Byte} (h : bindingAt s line = none) (d : Direction) :
    countedSlot s line d = none := by
  simp only [countedSlot, h]

/-- A slot counted on has a latch, since under the invariant a line is bound to an active slot alone (R36). -/
theorem Inv.latch_of_counted {s : State} {line : Byte} {d : Direction} {i : Nat} (hs : Inv s)
    (hc : countedSlot s line d = some i) : i < s.latches.length := by
  obtain ⟨k, hb, -⟩ := countedSlot_eq_some.mp hc
  obtain ⟨hactive, -⟩ := hs.bound line _ hb
  exact hs.latch_of_active hactive

theorem latchAt_incrementLatch_same {i : Nat} {s : State} (h : i < s.latches.length) :
    latchAt (incrementLatch i s) i = latchAt s i + 1#32 :=
  (latchAt_incrementLatch i i s).trans (if_pos ⟨rfl, h⟩)

theorem latchAt_incrementLatch_ne {i j : Nat} (h : i ≠ j) (s : State) :
    latchAt (incrementLatch i s) j = latchAt s j :=
  (latchAt_incrementLatch i j s).trans (if_neg fun hij => h hij.1)

/-- Settles O16: the binding qualifies for latch `j` exactly where `j` is the slot counted on, and `incrementLatch` writes
that latch alone. -/
theorem edgeCountsOnItsSlot : Obligations.EdgeCountsOnItsSlot := by
  intro s line d hs
  simp only [← countedSlot_eq_some]
  cases hc : countedSlot s line d with
  | none => exact ⟨s, exec_edge_none hc, rfl, rfl, fun j => ⟨nofun, fun _ => rfl⟩⟩
  | some i =>
    refine ⟨incrementLatch i s, exec_edge_counts hc, rfl, List.length_set, fun j => ⟨fun hj => ?_, fun hj => ?_⟩⟩
    · obtain rfl := Option.some.inj hj
      exact latchAt_incrementLatch_same (hs.latch_of_counted hc)
    · exact latchAt_incrementLatch_ne (fun hij => hj (congrArg some hij)) s

/-- Settles O17: in either case the EDGE counts on no slot. -/
theorem edgeWithoutEffect : Obligations.EdgeWithoutEffect := by
  rintro s line d (hunbound | ⟨b, hb, hq⟩)
  · exact exec_edge_none (countedSlot_of_unbound hunbound d)
  · exact exec_edge_none ((countedSlot_of_bound hb d).trans (if_neg (ne_true_of_eq_false hq)))

/-- Settles O18: the increment is modulo 2^32. -/
theorem latchWrapsToZero : Obligations.LatchWrapsToZero := by
  intro s line d i hs hc htop
  refine ⟨incrementLatch i s, exec_edge_counts hc, ?_⟩
  calc latchAt (incrementLatch i s) i = latchAt s i + 1#32 := latchAt_incrementLatch_same (hs.latch_of_counted hc)
    _ = 0xFFFFFFFF#32 + 1#32 := by rw [htop]
    _ = 0#32 := by decide

/-- Settles O19: the slot counted on is read off the bindings, and the increment writes the latches, so both EDGEs take the
same case and leave the input modes apart. -/
theorem inputModesDoNotEnterEdge : Obligations.InputModesDoNotEnterEdge := by
  intro s line d modes
  have hmodes : countedSlot { s with lineModes := modes } line d = countedSlot s line d := countedSlot_congr rfl line d
  cases hc : countedSlot s line d with
  | none => exact ⟨s, exec_edge_none hc, exec_edge_none (hmodes.trans hc)⟩
  | some i => exact ⟨incrementLatch i s, exec_edge_counts hc, exec_edge_counts (hmodes.trans hc)⟩

/-! ### The kinds of edge -/

/-- The rows of R85 in which an EDGE counts. -/
theorem qualifies_of_counting {k : EdgeKind} {d : Direction}
    (h : k = .change ∨ (k = .rising ∧ d = .rise) ∨ (k = .falling ∧ d = .fall)) : qualifies k d = true := by
  rcases h with rfl | ⟨rfl, rfl⟩ | ⟨rfl, rfl⟩ <;> rfl

/-- The rows of R85 in which it does not. -/
theorem qualifies_of_ignored {k : EdgeKind} {d : Direction}
    (h : (k = .rising ∧ d = .fall) ∨ (k = .falling ∧ d = .rise)) : qualifies k d = false := by
  rcases h with ⟨rfl, rfl⟩ | ⟨rfl, rfl⟩ <;> rfl

/-- Settles O55: the table of R85; an EDGE that does not qualify has no effect, one that does counts on the slot of the binding. -/
theorem edgeKindsCountTheirDirections : Obligations.EdgeKindsCountTheirDirections := by
  refine ⟨fun _ => rfl, rfl, rfl, rfl, rfl, fun s line d i k hs hb => ?_⟩
  cases hq : qualifies k d with
  | false =>
    refine ⟨s, edgeWithoutEffect s line d (.inr ⟨_, hb, hq⟩), fun h => ?_, fun _ => rfl⟩
    exact absurd (qualifies_of_counting h) (ne_true_of_eq_false hq)
  | true =>
    obtain ⟨t, ht, -, -, hlatch⟩ := edgeCountsOnItsSlot s line d hs
    refine ⟨t, ht, fun _ => (hlatch i).1 ⟨k, hb, hq⟩, fun h => ?_⟩
    exact absurd (qualifies_of_ignored h) (ne_false_of_eq_true hq)

end Sys2Proof.Machine
end

section
/-! CONFIG, QUERY and UNKNOWN (41_config.md R96 to R108): what a CONFIG that allocates does to each table, field by field. -/

namespace Sys2Proof.Machine

/-! ### The tables after a CONFIG that allocates -/

theorem armSlot_clockReading {i : Nat} {line : Byte} {m : TriggerMode} {s u : State}
    (armed : armSlot i line m s = some u) : clockReading u = clockReading s := by
  rw [armSlot_frame armed]
  rfl

theorem armSlot_slots {i : Nat} {line : Byte} {m : TriggerMode} {s u : State} (armed : armSlot i line m s = some u) :
    u.slots = s.slots := by rw [armSlot_frame armed]

/-- The new slot holds the operands and the clock reading, the active ones get the reading as their last time, and those
above stay (R96, R100). -/
theorem Allocates.slotAt_eq {i : Instr} {s t : State} (h : Allocates i s t) (hs : TablesSized s)
    {line high low : Byte} {m : TriggerMode} (hc : i.configOperands = some (line, m, high, low)) (j : Nat) :
    slotAt t j = if j = s.numSlots then ⟨line, m, intervalOf high low, clockReading s, 0#32⟩
      else if j < s.numSlots then { slotAt s j with lastTime := clockReading s } else slotAt s j := by
  have hn : s.numSlots < s.slots.length := hs.2.1 ▸ h.room hs
  obtain ⟨operands, -, armed⟩ := h
  cases operands.symm.trans hc
  rw [slotAt_finish, slotAt_activate, armSlot_clockReading armed, clockReading_allocate,
    slotAt_congr (armSlot_slots armed), armSlot_slots armed, allocate_slots, List.length_set, slotAt_allocate]
  obtain hj | rfl | hj := Nat.lt_trichotomy j s.numSlots
  · rw [if_pos ⟨by omega, by omega⟩, if_neg (by omega), if_neg (by omega), if_pos hj]
  · simp [hn]
  · rw [if_neg (by omega), if_neg (by omega), if_neg (by omega), if_neg (by omega)]

/-- The latch of the new slot is zeroed, and every other latch keeps its count (R96). -/
theorem Allocates.latchAt_eq {i : Instr} {s t : State} (h : Allocates i s t) (hs : TablesSized s) (j : Nat) :
    latchAt t j = if j = s.numSlots then 0#32 else latchAt s j := by
  have hn : s.numSlots < s.latches.length := hs.1 ▸ h.room hs
  obtain ⟨-, -, armed⟩ := h
  rw [latchAt_finish, latchAt_activate, latchAt_congr (armSlot_latches armed), latchAt_allocate]
  simp [hn, eq_comm]

/-- The line of a recognized mode is bound to the new slot for the mode's edge kind; no other binding moves (R99). -/
theorem Allocates.bindingAt_eq {i : Instr} {s t : State} (h : Allocates i s t) {line high low : Byte}
    {m : TriggerMode} {k : EdgeKind} (hc : i.configOperands = some (line, m, high, low)) (hk : edgeKindOf m = some k)
    (l : Byte) : bindingAt t l = if l = line then some ⟨s.numSlots, k⟩ else bindingAt s l := by
  obtain ⟨operands, -, armed⟩ := h
  cases operands.symm.trans hc
  obtain ⟨rfl, -⟩ | ⟨k', _, hk', -, -, rfl⟩ := armSlot_some armed
  · cases hk
  · cases hk.symm.trans hk'
    simp [bindingAt_writeBinding, eq_comm]

/-- The line of a recognized mode gets the mode's input mode; no other line's moves (R99). -/
theorem Allocates.lineModeAt_eq {i : Instr} {s t : State} (h : Allocates i s t) {line high low : Byte}
    {m : TriggerMode} {im : InputMode} (hc : i.configOperands = some (line, m, high, low))
    (him : inputModeOf m = some im) (l : Byte) :
    lineModeAt t l = if l = line then some im else lineModeAt s l := by
  obtain ⟨operands, -, armed⟩ := h
  cases operands.symm.trans hc
  obtain ⟨rfl, -⟩ | ⟨_, im', -, him', -, rfl⟩ := armSlot_some armed
  · cases him
  · cases him.symm.trans him'
    simp [lineModeAt_setInputMode, eq_comm]

/-- An unrecognized mode arms nothing (R101). -/
theorem Allocates.unarmed {i : Instr} {s t : State} (h : Allocates i s t) {line high low : Byte}
    (hc : i.configOperands = some (line, .unrecognized, high, low)) :
    t.bindings = s.bindings ∧ t.lineModes = s.lineModes := by
  obtain ⟨operands, -, armed⟩ := h
  cases operands.symm.trans hc
  cases (armSlot_unrecognized _ _ _).symm.trans armed
  simp

/-- But for the tables, a CONFIG that allocates takes one clock sample, counts the slot and answers true (R96, R102). -/
theorem Allocates.frame {i : Instr} {s t : State} (h : Allocates i s t) :
    t = { s with
          clock := s.clock.tail, draws := drawsAfterSample s,
          latches := t.latches, slots := t.slots, numSlots := s.numSlots + 1, bindings := t.bindings,
          lineModes := t.lineModes, answers := s.answers ++ [true] } := by
  obtain ⟨-, -, armed⟩ := h
  rw [armSlot_frame armed]
  simp only [finish, outcomeAnswer_allocated, activate, afterSample_eq]
  rfl

/-! ### CONFIG -/

/-- The slots and latches after a CONFIG that allocates: the new ones, those of the active slots, and the others (R96, R100). -/
theorem Allocates.slots_and_latches {i : Instr} {s t : State} (h : Allocates i s t) (hs : TablesSized s)
    {line high low : Byte} {m : TriggerMode} (hc : i.configOperands = some (line, m, high, low)) :
    slotAt t s.numSlots = ⟨line, m, intervalOf high low, clockReading s, 0#32⟩ ∧
      (∀ j, j < s.numSlots → slotAt t j = { slotAt s j with lastTime := clockReading s }) ∧
      (∀ j, s.numSlots < j → slotAt t j = slotAt s j) ∧
      latchAt t s.numSlots = 0#32 ∧ ∀ j, j ≠ s.numSlots → latchAt t j = latchAt s j := by
  refine ⟨?_, fun j hj => ?_, fun j hj => ?_, ?_, fun j hj => ?_⟩
  · rw [h.slotAt_eq hs hc, if_pos rfl]
  · rw [h.slotAt_eq hs hc, if_neg hj.ne, if_pos hj]
  · rw [h.slotAt_eq hs hc, if_neg hj.ne', if_neg hj.not_gt]
  · rw [h.latchAt_eq hs, if_pos rfl]
  · rw [h.latchAt_eq hs, if_neg hj]

/-- Settles O22: the CONFIG allocates, and the lemma of each table says what it holds then. -/
theorem configAllocatesAndArms : Obligations.ConfigAllocatesAndArms := by
  intro s i line high low m k im hc hk him hs idle room hline
  obtain ⟨t, he, ha⟩ := exec_config_allocates hc idle room.ne (.inr hline)
  obtain ⟨hnew, hactive, habove, hlatch, hlatches⟩ := ha.slots_and_latches hs.sized hc
  refine ⟨t, he, ha.frame, ha.latches_length, ha.slots_length, hnew, hactive, habove, hlatch, hlatches, ?_,
    fun l hl => ?_, ?_, fun l hl => ?_⟩
  · rw [ha.bindingAt_eq hc hk, if_pos rfl]
  · rw [ha.bindingAt_eq hc hk, if_neg hl]
  · rw [ha.lineModeAt_eq hc him, if_pos rfl]
  · rw [ha.lineModeAt_eq hc him, if_neg hl]

/-- Settles O23: it allocates on any line, since an unrecognized mode arms none. -/
theorem configUnrecognizedArmsNothing : Obligations.ConfigUnrecognizedArmsNothing := by
  intro s line mode high low hs idle room
  have hc : (Instr.configUnrecognized line mode high low).configOperands = some (line, .unrecognized, high, low) := rfl
  obtain ⟨t, he, ha⟩ := exec_config_allocates hc idle room.ne (.inl rfl)
  obtain ⟨hbindings, hmodes⟩ := ha.unarmed hc
  refine ⟨t, he, ?_, ha.latches_length, ha.slots_length, ha.slots_and_latches hs.sized hc⟩
  simpa only [hbindings, hmodes] using ha.frame

/-- Settles O21: on a full table a CONFIG of any mode stops at step 1. -/
theorem configOnAFullTable : Obligations.ConfigOnAFullTable :=
  fun _ _ _ _ _ _ hc idle full => exec_config_full (by simp [hc]) idle full

/-! ### QUERY and UNKNOWN -/

/-- Settles O26: with no TICK incomplete, QUERY is `finish` with the outcome OK. -/
theorem queryIsInert : Obligations.QueryIsInert :=
  fun s _ idle => whenIdle_of_idle idle (.next (finish .ok s))

/-- Settles O27: with no TICK incomplete, UNKNOWN raises the diagnostic and is finished with the outcome UNKNOWN_CMD. -/
theorem unknownCommandIsRejected : Obligations.UnknownCommandIsRejected :=
  fun s code _ idle => whenIdle_of_idle idle (.next (finish .unknownCmd (raiseDiag (.unknownCmd code) s)))

/-! ### The sink -/

/-- Settles O50: of the ways an operation can complete, only those of the tick, capability and output ports emit (R108). -/
theorem onlyTickAndCapabilityEmit : Obligations.OnlyTickAndCapabilityEmit := by
  intro s t i h htick hcapability houtput
  cases exec_completes h with
  | configAllocated _ _ _ armed =>
    rw [armSlot_frame armed]
    simp
  | tickNone | tickOpen => exact absurd rfl htick
  | capabilityOk | capabilityRejected => exact absurd rfl hcapability
  | reportNone | report | capabilityResponse => exact absurd rfl houtput
  | edgeNone => rfl
  | configFull | query | unknown | edgeCounts | reset | pinModeOk | pinModeRejected => simp

end Sys2Proof.Machine
end

section
/-! TICK rule by rule (42_report.md R113 to R124; 60_exceptions.md R151): the due test, the step of an incomplete TICK,
and each micro-step. -/

namespace Sys2Proof.Machine

/-! ### The due test -/

/-- The elapsed time of R114 as a number. -/
theorem elapsed_toNat (x : Slot) (t : Word) :
    (elapsed x t).toNat = (t.toNat + 4294967296 - x.lastTime.toNat) % 4294967296 := by
  rw [elapsed, BitVec.toNat_sub]
  omega

/-- The due test compares numbers: widening the interval keeps its value (R115). -/
theorem isDue_iff {x : Slot} {t : Word} : isDue x t = true ↔ x.interval.toNat < (elapsed x t).toNat := by
  rw [isDue, BitVec.ult, decide_eq_true_iff, BitVec.toNat_setWidth_of_le (by decide)]

/-- Settles O28: the due test on the elapsed time as a number. -/
theorem dueIsStrictlyPastTheInterval : Obligations.DueIsStrictlyPastTheInterval := by
  intro x t
  rw [isDue_iff, elapsed_toNat]

theorem dueSlots_eq_nil {s : State} {t : Word} :
    dueSlots s t = [] ↔ ∀ i, i < s.numSlots → (elapsed (slotAt s i) t).toNat ≤ (slotAt s i).interval.toNat := by
  simp only [List.eq_nil_iff_forall_not_mem, mem_dueSlots, isDue_iff, not_and, not_lt]

/-- With interval 0 a slot is due unless no time has elapsed (R124). -/
theorem isDue_of_interval_zero {x : Slot} (h : x.interval = 0#16) (t : Word) : isDue x t = true ↔ t ≠ x.lastTime :=
  calc isDue x t = true ↔ 0 < (elapsed x t).toNat := by rw [isDue_iff, h, BitVec.toNat_zero]
    _ ↔ (elapsed x t).toNat ≠ (0#32).toNat := Nat.pos_iff_ne_zero
    _ ↔ elapsed x t ≠ 0#32 := BitVec.toNat_ne_iff_ne
    _ ↔ t ≠ x.lastTime := sub_ne_zero

/-! ### TICK with nothing to report -/

/-- Settles O29: it is the case of `execTick` that ends before the sample. -/
theorem tickWithoutSlotsDoesNothing : Obligations.TickWithoutSlotsDoesNothing :=
  fun _ idle h => exec_tick_no_slots idle h

/-- Settles O30: no slot passes the due test, so micro-step 1 ends with the sample. -/
theorem tickWithNothingDueOnlySamples : Obligations.TickWithNothingDueOnlySamples := by
  intro s idle hslots hwithin
  simp only [← elapsed_toNat] at hwithin
  rw [exec_tick_slots idle hslots, openFrame_nothing_due (dueSlots_eq_nil.mpr hwithin)]

/-! ### An incomplete TICK -/

/-- Settles O11: the poll loop has the turn, and inside a TICK its step is the next micro-step. -/
theorem stepContinuesTheTick : Obligations.StepContinuesTheTick :=
  fun s _ ht => ⟨fun ho => step_draining ho ht,
    fun ts hs => (step_turn hs).trans (runPollLoop_draining (s := setTurns ts s) ht)⟩

/-- Settles O14: every operation but EDGE stands behind the guard of the poll loop. -/
theorem incompleteTickRefusesOperations : Obligations.IncompleteTickRefusesOperations := by
  intro s due i ht hport
  cases i with
  | edge => exact absurd rfl hport
  | configChange | configRising | configFalling | configChangePu | configRisingPu | configFallingPu
  | configUnrecognized | query | unknown | tick | reset | pinMode | capability | report | capabilityResponse =>
    exact whenIdle_of_draining ht _

/-- Settles O33: with no slot left to drain the micro-step closes the frame. -/
theorem closeMicroStepEndsTheFrame : Obligations.CloseMicroStepEndsTheFrame :=
  fun _ ht => tickMicroStep_nil ht

/-! ### The drain of a slot -/

theorem Inv.slot_of_active {s : State} (hs : Inv s) {i : Nat} (hi : i < s.numSlots) : i < s.slots.length := by
  obtain ⟨-, hslots, hcount⟩ := hs.sized
  omega

theorem Inv.active_of_draining {s : State} (hs : Inv s) {i : Nat} {due : List Nat}
    (ht : s.tick = .draining (i :: due)) : i < s.numSlots :=
  (hs.ticks _ ht).2 i List.mem_cons_self

/-- The micro-step of a slot reports it (R120, R121). -/
theorem slotAt_tickMicroStep_drained {s : State} (hs : Inv s) {i : Nat} {due : List Nat}
    (ht : s.tick = .draining (i :: due)) : slotAt (tickMicroStep s) i = reportedSlot s i := by
  rw [tickMicroStep_cons ht, slotAt_setTick, slotAt_drainSlot,
    if_pos ⟨rfl, hs.slot_of_active (hs.active_of_draining ht)⟩, reportedSlot]

/-- The micro-step of a slot drains its latch (R121). -/
theorem latchAt_tickMicroStep_drained {s : State} (hs : Inv s) {i : Nat} {due : List Nat}
    (ht : s.tick = .draining (i :: due)) : latchAt (tickMicroStep s) i = 0#32 := by
  rw [tickMicroStep_cons ht, latchAt_setTick, latchAt_drainSlot,
    if_pos ⟨rfl, hs.latch_of_active (hs.active_of_draining ht)⟩]

/-- A drain writes the two tables, the sink and where the TICK stands. -/
theorem tickMicroStep_drain_frame {s : State} {i : Nat} {due : List Nat} (ht : s.tick = .draining (i :: due)) :
    tickMicroStep s = { s with
      latches := (tickMicroStep s).latches, slots := (tickMicroStep s).slots, tick := .draining due,
      output := s.output ++ bytesBE (latchAt s i) } := by
  rw [tickMicroStep_cons ht]
  rfl

/-- Settles O32: the slot is reported and its latch drained; a drain leaves the entries of every other slot. -/
theorem drainMicroStepReportsTheLatch : Obligations.DrainMicroStepReportsTheLatch := by
  intro s i due hs ht
  have hkeeps := tickMicroStep_keepsTables s
  refine ⟨_, rfl, tickMicroStep_drain_frame ht, hkeeps.latches, hkeeps.slots, latchAt_tickMicroStep_drained hs ht,
    fun j hj => ?_, slotAt_tickMicroStep_drained hs ht, fun j hj => ?_⟩
  · rw [tickMicroStep_cons ht, latchAt_setTick, latchAt_drainSlot_ne hj.symm]
  · rw [tickMicroStep_cons ht, slotAt_setTick, slotAt_drainSlot_ne hj.symm]

/-! ### Due after the report -/

theorem reportedSlot_interval (s : State) (i : Nat) : (reportedSlot s i).interval = (slotAt s i).interval := rfl

/-- The report takes one interval off the elapsed time (R120). -/
theorem elapsed_reportedSlot (s : State) (i : Nat) (t : Word) :
    elapsed (reportedSlot s i) t = elapsed (slotAt s i) t - (slotAt s i).interval.setWidth 32 :=
  sub_add_eq_sub_sub _ _ _

/-- Settles O36: of more than two intervals elapsed, the report leaves more than one. -/
theorem catchUpSlotStaysDue : Obligations.CatchUpSlotStaysDue := by
  intro s i due t hs ht hlate
  have hwide : ((slotAt s i).interval.setWidth 32).toNat = (slotAt s i).interval.toNat :=
    BitVec.toNat_setWidth_of_le (by decide)
  have hle : (slotAt s i).interval.setWidth 32 ≤ elapsed (slotAt s i) t := by rw [BitVec.le_def]; omega
  rw [slotAt_tickMicroStep_drained hs ht, isDue_iff, elapsed_reportedSlot, reportedSlot_interval,
    BitVec.toNat_sub_of_le hle, hwide]
  omega

/-- Settles O37: the due test with interval 0, and the report moves the last time by 0. -/
theorem intervalZeroIsDueOffItsEpoch : Obligations.IntervalZeroIsDueOffItsEpoch := by
  refine ⟨fun x t h => isDue_of_interval_zero h t, fun s i due hs ht hzero => ?_⟩
  rw [slotAt_tickMicroStep_drained hs ht, reportedSlot, hzero]
  exact add_zero _

end Sys2Proof.Machine
end

section
/-! PIN_MODE, CAPABILITY and RESET (43_capability_reset.md R134 to R145): what each does with no TICK incomplete. -/

namespace Sys2Proof.Machine

/-! ### RESET -/

theorem exec_reset {s : State} (idle : s.tick = .idle) :
    exec .reset s = .next (setNumSlots 0 (disarmAll (activeLines s) s)) := whenIdle_of_idle idle _

theorem disarmAll_frame (ls : List Byte) (s : State) :
    disarmAll ls s = { s with bindings := (disarmAll ls s).bindings } := by
  induction ls generalizing s with
  | nil => rfl
  | cons l ls ih => exact ih (disarm l s)

/-- The lines RESET disarms are those the active slots name (R140). -/
theorem mem_activeLines {s : State} (hs : TablesSized s) {line : Byte} :
    line ∈ activeLines s ↔ ∃ i, i < s.numSlots ∧ (slotAt s i).line = line := by
  obtain ⟨-, hslots, hcount⟩ := hs
  constructor
  · intro h
    obtain ⟨x, hx, rfl⟩ := List.mem_map.mp h
    obtain ⟨i, hi, rfl⟩ := List.mem_take_iff_getElem.mp hx
    obtain ⟨hactive, hslot⟩ := lt_min_iff.mp hi
    exact ⟨i, hactive, congrArg Slot.line (slotAt_eq_getElem hslot)⟩
  · rintro ⟨i, hi, rfl⟩
    exact line_mem_activeLines hi (by omega)

/-- Settles O43: RESET disarms the active lines alone, and these are the lines the active slots name. -/
theorem resetDisarmsTheActiveSlots : Obligations.ResetDisarmsTheActiveSlots := by
  intro s hs idle
  refine ⟨_, exec_reset idle, congrArg (setNumSlots 0) (disarmAll_frame _ s), fun l => ?_⟩
  rw [← mem_activeLines hs.sized, bindingAt_setNumSlots, bindingAt_disarmAll]
  exact ⟨fun h => if_pos h, fun h => if_neg h⟩

/-- With no slot active RESET has no line to disarm (R144). -/
theorem exec_reset_no_slots {s : State} (idle : s.tick = .idle) (h : s.numSlots = 0) : exec .reset s = .next s := by
  have hlines : activeLines s = [] := by simp [activeLines, h]
  rw [exec_reset idle, hlines, ← h]
  rfl

/-- Settles O44: under the invariant RESET unbinds every line, and with no line bound and no slot active nothing counts,
is reported or is left to disarm. -/
theorem resetSilencesTheMachine : Obligations.ResetSilencesTheMachine := by
  intro s hs idle
  have idle' : (setNumSlots 0 (disarmAll (activeLines s) s)).tick = .idle := by simpa using idle
  have hunbound := bindingAt_disarmAll_activeLines hs
  exact ⟨_, exec_reset idle, rfl, hunbound, exec_tick_no_slots idle' rfl, exec_reset_no_slots idle' rfl,
    fun l d => exec_edge_none (countedSlot_of_unbound (hunbound l) d)⟩

/-! ### PIN_MODE -/

theorem exec_pinMode {s : State} (idle : s.tick = .idle) (line mode : Byte) :
    exec (.pinMode line mode) s =
      if mode = s.cfg.countMode ∧ s.cfg.irqCapable line = true then .next (finish .ok (setInputMode line .input s))
      else .next (finish .rejected s) := whenIdle_of_idle idle _

/-- Settles O40: in each of the two cases of PIN_MODE. -/
theorem pinModeSetsInput : Obligations.PinModeSetsInput := by
  intro s line mode idle
  by_cases hset : mode = s.cfg.countMode ∧ s.cfg.irqCapable line = true
  · refine ⟨_, (exec_pinMode idle line mode).trans (if_pos hset), ?_, fun l => ?_⟩
    · rw [decide_eq_true hset]
      rfl
    · rw [lineModeAt_finish, lineModeAt_setInputMode]
      simp only [hset, and_self, and_true, eq_comm]
  · refine ⟨_, (exec_pinMode idle line mode).trans (if_neg hset), ?_, fun l => ?_⟩
    · rw [decide_eq_false hset]
      rfl
    · rw [lineModeAt_finish, if_neg fun h => hset h.2]

/-! ### CAPABILITY -/

theorem exec_capability {s : State} (idle : s.tick = .idle) (line : Byte) :
    exec (.capability line) s =
      if s.cfg.irqCapable line then .next (finish .ok (emit (encodeCapabilityResponse s.cfg s.cfg.maxSlotsByte) s))
      else .next (finish .rejected s) := whenIdle_of_idle idle _

/-- Settles O41: the byte advertised has the capacity as its value, and the two cases are those of CAPABILITY. -/
theorem capabilityAdvertisesTheCapacity : Obligations.CapabilityAdvertisesTheCapacity :=
  fun s line idle => ⟨s.cfg.maxSlotsByte, maxSlotsByte_toNat s.cfg, exec_capability idle line⟩

end Sys2Proof.Machine
end

section
/-! The pending edges (60_exceptions.md R154, R155, R158): the step of an edge agent, and the transitions at one boundary
in any order. -/

namespace Sys2Proof.Machine

/-! ### The step of an edge agent -/

/-- An edge agent that alone can move does. -/
theorem step_edgeAgent_alone {s : State} (h : s.turns = []) (hp : pollReady s = false) (he : s.edges ≠ []) :
    step s = runEdgeAgent s := by
  rw [step, nextTurn_edge h hp he]
  rfl

/-- Settles O10: by either kind of turn the edge agent takes the oldest transition off the pending ones. -/
theorem stepRunsThePendingEdge : Obligations.StepRunsThePendingEdge :=
  fun s _ _ he =>
    ⟨fun h hp => (step_edgeAgent_alone h hp (he ▸ List.cons_ne_nil _ _)).trans (runEdgeAgent_cons he),
      fun ts h => (step_turn h).trans (runEdgeAgent_cons (s := setTurns ts s) he)⟩

/-! ### The transitions at one boundary -/

/-- Increments commute: of one latch they are the same, of two they write apart. -/
theorem incrementLatch_comm (i j : Nat) (s : State) :
    incrementLatch i (incrementLatch j s) = incrementLatch j (incrementLatch i s) := by
  by_cases hij : i = j
  · rw [hij]
  · have hi : latchAt (incrementLatch j s) i = latchAt s i := latchAt_incrementLatch_ne (Ne.symm hij) s
    have hj : latchAt (incrementLatch i s) j = latchAt s j := latchAt_incrementLatch_ne hij s
    calc incrementLatch i (incrementLatch j s)
        = writeLatch i (latchAt s i + 1#32) (writeLatch j (latchAt s j + 1#32) s) := by rw [incrementLatch, hi]; rfl
      _ = writeLatch j (latchAt s j + 1#32) (writeLatch i (latchAt s i + 1#32) s) := by
          simp only [writeLatch, List.set_comm _ _ hij]
      _ = incrementLatch j (incrementLatch i s) := by rw [incrementLatch, hj]; rfl

/-- The state after one transition has taken effect (R86, R87). -/
def afterEdge (s : State) (e : EdgeEvent) : State :=
  match countedSlot s e.line e.dir with
  | some i => incrementLatch i s
  | none => s

theorem afterEdge_counts {s : State} {e : EdgeEvent} {i : Nat} (h : countedSlot s e.line e.dir = some i) :
    afterEdge s e = incrementLatch i s := by simp only [afterEdge, h]

theorem afterEdge_none {s : State} {e : EdgeEvent} (h : countedSlot s e.line e.dir = none) : afterEdge s e = s := by
  simp only [afterEdge, h]

theorem exec_decodeEdge (e : EdgeEvent) (s : State) : exec (decodeEdge e) s = .next (afterEdge s e) := by
  cases h : countedSlot s e.line e.dir with
  | none => rw [afterEdge_none h]; exact exec_edge_none h
  | some i => rw [afterEdge_counts h]; exact exec_edge_counts h

/-- Transitions taking effect one after the other always complete. -/
theorem runEdges_eq_foldl (es : List EdgeEvent) (s : State) : runEdges es s = .next (es.foldl afterEdge s) := by
  induction es generalizing s with
  | nil => rfl
  | cons e es ih =>
    calc runEdges (e :: es) s = runEdges es (afterEdge s e) := by
          simp only [runEdges, List.map_cons, runOps, exec_decodeEdge]
      _ = .next ((e :: es).foldl afterEdge s) := ih (afterEdge s e)

/-- A transition leaves the bindings, and with them the slot every other one counts on. -/
theorem countedSlot_afterEdge (s : State) (e : EdgeEvent) (line : Byte) (d : Direction) :
    countedSlot (afterEdge s e) line d = countedSlot s line d := by
  unfold afterEdge
  split <;> rfl

/-- Two transitions commute: each counts on the slot it would count on without the other, and increments commute. -/
theorem afterEdge_comm (e f : EdgeEvent) (s : State) : afterEdge (afterEdge s e) f = afterEdge (afterEdge s f) e := by
  have he' := countedSlot_afterEdge s f e.line e.dir
  have hf' := countedSlot_afterEdge s e f.line f.dir
  cases he : countedSlot s e.line e.dir with
  | none => rw [afterEdge_none he, afterEdge_none (he'.trans he)]
  | some i =>
    cases hf : countedSlot s f.line f.dir with
    | none => rw [afterEdge_none hf, afterEdge_none (hf'.trans hf)]
    | some j =>
      rw [afterEdge_counts (hf'.trans hf), afterEdge_counts he, afterEdge_counts (he'.trans he), afterEdge_counts hf,
        incrementLatch_comm]

/-- Settles O20: the transitions fold over the state, and a fold of steps that commute is the same for every permutation. -/
theorem edgesCommute : Obligations.EdgesCommute := by
  intro s es fs hperm
  have hsame : es.foldl afterEdge s = fs.foldl afterEdge s := hperm.foldl_eq' (fun e _ f _ t => afterEdge_comm e f t) s
  exact ⟨_, runEdges_eq_foldl es s, hsame ▸ runEdges_eq_foldl fs s⟩

end Sys2Proof.Machine
end

section
/-! The state at power-on (70_reset_and_hazards.md R171, R172). -/

namespace Sys2Proof.Machine

@[simp] theorem lineModeAt_powerOn (c : Config) (line : Byte) : lineModeAt (State.powerOn c) line = none := by
  simp [lineModeAt, State.powerOn]

/-- Settles O45: under every choice of the parameters the fields are as `State.powerOn` sets them, and the tables have the
capacity's length by the invariant. -/
theorem powerOnState : Obligations.PowerOnState :=
  have ⟨hlatches, hslots, _⟩ := (powerOn_inv Config.machine).sized
  ⟨rfl, bindingAt_powerOn _, lineModeAt_powerOn _, rfl, rfl, hlatches, hslots⟩

end Sys2Proof.Machine
end
